-- ==== Sys2Proof/Word.lean ====
section
/-! DEFINITION. The word types of the core (R8, R9): every architectural value is a bit vector of a stated width. -/

namespace Sys2Proof

/-- One byte of physical memory (R117). -/
abbrev Byte := BitVec 8

/-- A 32-bit word: an instruction, a 32-bit COP0 register, a physical address (R8). -/
abbrev Word := BitVec 32

/-- A 64-bit doubleword: a GPR, HI, LO, the program counter, a virtual address (R8). -/
abbrev Dword := BitVec 64

/-- A register number, 0 to 31 (R11). -/
abbrev Reg := BitVec 5

/-- A 16-bit immediate or displacement (R161). -/
abbrev Imm := BitVec 16

end Sys2Proof
end

