-- ==== Sys2Proof/Config.lean ====
section
/-! DEFINITION. What is fixed for the machine (R8): the constants of the parameter table, the names of the physical windows,
the interface of the external device function, and the free values, which have no body. -/

namespace Sys2Proof

/-- The thirteen windows of the physical address space (R118). -/
inductive Window where
  | rdram | spDmem | spImem | spRegs | spPcRegs | mi | vi | ai | pi | ri | si | cart | pifRam
  deriving DecidableEq, Repr, Inhabited

/-- RDRAM_BYTES is OPEN between the two sizes of R118. -/
inductive RdramSize where
  | mib4 | mib8
  deriving DecidableEq, Repr, Inhabited

/-- The operation of a DEV call (R126): a read, or a write of a value. -/
inductive DevOp where
  | read
  | write (v : Word)
  deriving DecidableEq, Repr, Inhabited

/-- The state of the device registers this core gives no meaning to (R51, R126): 32-bit cells by physical address. -/
abbrev DevState := List (Nat × Word)

/-- What a DEV call answers (R126) and the only effects it may make (R472). The core applies an effect only in the
window that R472 allows it in. -/
structure DevAnswer where
  /-- The 32-bit value of a read. -/
  result : Word
  /-- The device state after the call. -/
  state : DevState
  /-- Status `fatal`: the access is Fatal(DEVICE). -/
  fatal : Bool
  /-- Byte writes to physical memory (an SP or SI DMA). -/
  memWrites : List (Nat × Byte)
  /-- Sets or clears MI_INTR bit 1 (SI window). -/
  siIntr : Option Bool
  /-- Sets or clears MI_INTR bit 2 (AI window). -/
  aiIntr : Option Bool
  /-- Sets MI_INTR bit 5, DP (any window). -/
  dpIntr : Bool
  deriving DecidableEq, Repr, Inhabited

/-- Which external function DEV the host supplied at launch (R126, log 6). -/
inductive DevChoice where
  /-- The spec's simulator default: every register is a 32-bit storage cell with no effect. -/
  | simulatorDefault
  /-- Any other function: the free value `Config.dev`. -/
  | external
  deriving DecidableEq, Repr, Inhabited

namespace Config

/-- COP0 PRId, a constant (R45). -/
def prid : Word := 0x00000B22#32

/-- COP1 FCR0, a constant (R48). -/
def fcr0 : Word := 0x00000A00#32

/-- The reset value of COP0 Config (R45); BE, bit 15, is 1. -/
def configReset : Word := 0x0006E463#32

/-- MI_VERSION, a constant (R442). -/
def miVersion : Word := 0x02020102#32

/-- Scheduler cycles of one CPU step (R8). -/
def cyclesPerStep : Nat := 1

/-- Whether a not-taken branch-likely sets the delay-slot flag (R8, R284, conflict C1): it does not. -/
def likelyNtMarksDs : Bool := false

/-- DESIGN CHOICE (log 2), unsafe: what a byte of memory that nothing has written reads as. The spec leaves it
unspecified, with simulator value 0 (R480). -/
def unwrittenByte : Byte := 0#8

/-- Free value: the `n`-th draw of R10, a value under no law; a narrower draw takes its low bits (log 3). -/
opaque draw : Nat → BitVec 64

/-- Free value: the external function DEV (R126), OPEN: window, offset, operation and device state to an answer. -/
opaque dev : Window → Nat → DevOp → DevState → DevAnswer

/-- Free value: the serial-bus command processor SERIAL_PROC (R470), OPEN. `serialProc t pif i` is byte `i` of the new
PIF RAM, where `pif` is the old one and `t`, the draw counter, stands for the controller snapshot (log 7). -/
opaque serialProc : Nat → List Byte → Nat → Byte

/-- PRESUMED (log 5), except entry 2: the simulator's BOOT_GPR table for CIC 6102/7101 (R482). -/
def bootGpr6102 : List (Reg × Dword) := [
  (1#5, 0x0000000000000001#64), (2#5, 0x000000000EBDA536#64), (3#5, 0x000000000EBDA536#64),
  (6#5, 0xFFFFFFFFA4001F0C#64), (7#5, 0xFFFFFFFFA4001F08#64), (8#5, 0x00000000000000C0#64),
  (10#5, 0x0000000000000040#64), (11#5, 0xFFFFFFFFA4000040#64), (12#5, 0xFFFFFFFFED10D0B3#64),
  (13#5, 0x000000001402A4CC#64), (15#5, 0x000000003103E121#64), (20#5, 0x0000000000000001#64),
  (22#5, 0x000000000000003F#64), (25#5, 0xFFFFFFFF9DEBB54F#64), (29#5, 0xFFFFFFFFA4001FF0#64),
  (31#5, 0xFFFFFFFFA4001550#64)]

end Config
end Sys2Proof
end

