-- ==== Sys2Proof/Syntax.lean ====
section
/-! DEFINITION. The instructions: one constructor per row of spec/opcode_table.json, with the operand fields the row names
(R161). The FP-COMPUTE rows also keep the fields of R399, which no rule reads. -/

namespace Sys2Proof

/-- One instruction of the core. Fields are raw bits: register numbers, immediates and codes. -/
inductive Instr where
  -- Integer arithmetic, logic, shifts and set (40_alu.md)
  /-- ADD (R203). -/
  | add (rs rt rd : Reg)
  /-- ADDU (R204). -/
  | addu (rs rt rd : Reg)
  /-- SUB (R205). -/
  | sub (rs rt rd : Reg)
  /-- SUBU (R206). -/
  | subu (rs rt rd : Reg)
  /-- ADDI (R207). -/
  | addi (rs rt : Reg) (imm : Imm)
  /-- ADDIU (R208). -/
  | addiu (rs rt : Reg) (imm : Imm)
  /-- DADD (R209). -/
  | dadd (rs rt rd : Reg)
  /-- DADDU (R210). -/
  | daddu (rs rt rd : Reg)
  /-- DSUB (R211). -/
  | dsub (rs rt rd : Reg)
  /-- DSUBU (R212). -/
  | dsubu (rs rt rd : Reg)
  /-- DADDI (R213). -/
  | daddi (rs rt : Reg) (imm : Imm)
  /-- DADDIU (R214). -/
  | daddiu (rs rt : Reg) (imm : Imm)
  /-- SLT (R215). -/
  | slt (rs rt rd : Reg)
  /-- SLTU (R216). -/
  | sltu (rs rt rd : Reg)
  /-- SLTI (R217). -/
  | slti (rs rt : Reg) (imm : Imm)
  /-- SLTIU (R218). -/
  | sltiu (rs rt : Reg) (imm : Imm)
  /-- AND (R219). -/
  | and (rs rt rd : Reg)
  /-- OR (R220). -/
  | or (rs rt rd : Reg)
  /-- XOR (R221). -/
  | xor (rs rt rd : Reg)
  /-- NOR (R222). -/
  | nor (rs rt rd : Reg)
  /-- ANDI (R223). -/
  | andi (rs rt : Reg) (imm : Imm)
  /-- ORI (R224). -/
  | ori (rs rt : Reg) (imm : Imm)
  /-- XORI (R225). -/
  | xori (rs rt : Reg) (imm : Imm)
  /-- LUI (R226). -/
  | lui (rt : Reg) (imm : Imm)
  /-- SLL (R227). -/
  | sll (rt rd : Reg) (sa : BitVec 5)
  /-- SRL (R228). -/
  | srl (rt rd : Reg) (sa : BitVec 5)
  /-- SRA (R229). -/
  | sra (rt rd : Reg) (sa : BitVec 5)
  /-- SLLV (R230). -/
  | sllv (rs rt rd : Reg)
  /-- SRLV (R231). -/
  | srlv (rs rt rd : Reg)
  /-- SRAV (R232). -/
  | srav (rs rt rd : Reg)
  /-- DSLL (R233). -/
  | dsll (rt rd : Reg) (sa : BitVec 5)
  /-- DSRL (R234). -/
  | dsrl (rt rd : Reg) (sa : BitVec 5)
  /-- DSRA (R235). -/
  | dsra (rt rd : Reg) (sa : BitVec 5)
  /-- DSLL32 (R236). -/
  | dsll32 (rt rd : Reg) (sa : BitVec 5)
  /-- DSRL32 (R237). -/
  | dsrl32 (rt rd : Reg) (sa : BitVec 5)
  /-- DSRA32 (R238). -/
  | dsra32 (rt rd : Reg) (sa : BitVec 5)
  /-- DSLLV (R239). -/
  | dsllv (rs rt rd : Reg)
  /-- DSRLV (R240). -/
  | dsrlv (rs rt rd : Reg)
  /-- DSRAV (R241). -/
  | dsrav (rs rt rd : Reg)
  -- Multiply, divide and HI/LO moves (41_muldiv.md)
  /-- MFHI (R263). -/
  | mfhi (rd : Reg)
  /-- MTHI (R264). -/
  | mthi (rs : Reg)
  /-- MFLO (R265). -/
  | mflo (rd : Reg)
  /-- MTLO (R266). -/
  | mtlo (rs : Reg)
  /-- MULT (R267). -/
  | mult (rs rt : Reg)
  /-- MULTU (R268). -/
  | multu (rs rt : Reg)
  /-- DMULT (R269). -/
  | dmult (rs rt : Reg)
  /-- DMULTU (R270). -/
  | dmultu (rs rt : Reg)
  /-- DIV (R271). -/
  | div (rs rt : Reg)
  /-- DIVU (R272). -/
  | divu (rs rt : Reg)
  /-- DDIV (R276). -/
  | ddiv (rs rt : Reg)
  /-- DDIVU (R277). -/
  | ddivu (rs rt : Reg)
  -- Branches and jumps (42_branch.md)
  /-- BEQ (R287). -/
  | beq (rs rt : Reg) (offset : Imm)
  /-- BNE (R288). -/
  | bne (rs rt : Reg) (offset : Imm)
  /-- BLEZ (R289). -/
  | blez (rs : Reg) (offset : Imm)
  /-- BGTZ (R290). -/
  | bgtz (rs : Reg) (offset : Imm)
  /-- BLTZ (R291). -/
  | bltz (rs : Reg) (offset : Imm)
  /-- BGEZ (R292). -/
  | bgez (rs : Reg) (offset : Imm)
  /-- BLTZAL (R293). -/
  | bltzal (rs : Reg) (offset : Imm)
  /-- BGEZAL (R294). -/
  | bgezal (rs : Reg) (offset : Imm)
  /-- BEQL (R295). -/
  | beql (rs rt : Reg) (offset : Imm)
  /-- BNEL (R296). -/
  | bnel (rs rt : Reg) (offset : Imm)
  /-- BLEZL (R297). -/
  | blezl (rs : Reg) (offset : Imm)
  /-- BGTZL (R298). -/
  | bgtzl (rs : Reg) (offset : Imm)
  /-- BLTZL (R299). -/
  | bltzl (rs : Reg) (offset : Imm)
  /-- BGEZL (R300). -/
  | bgezl (rs : Reg) (offset : Imm)
  /-- BLTZALL (R301). -/
  | bltzall (rs : Reg) (offset : Imm)
  /-- BGEZALL (R302). -/
  | bgezall (rs : Reg) (offset : Imm)
  /-- J (R303). -/
  | j (index : BitVec 26)
  /-- JAL (R304). -/
  | jal (index : BitVec 26)
  /-- JR (R305). -/
  | jr (rs : Reg)
  /-- JALR (R306). -/
  | jalr (rs rd : Reg)
  -- Loads and stores (43_loadstore.md)
  /-- LB (R313). -/
  | lb (base rt : Reg) (offset : Imm)
  /-- LBU (R314). -/
  | lbu (base rt : Reg) (offset : Imm)
  /-- LH (R315). -/
  | lh (base rt : Reg) (offset : Imm)
  /-- LHU (R316). -/
  | lhu (base rt : Reg) (offset : Imm)
  /-- LW (R317). -/
  | lw (base rt : Reg) (offset : Imm)
  /-- LWU (R318). -/
  | lwu (base rt : Reg) (offset : Imm)
  /-- LD (R319). -/
  | ld (base rt : Reg) (offset : Imm)
  /-- LWL (R322). -/
  | lwl (base rt : Reg) (offset : Imm)
  /-- LWR (R323). -/
  | lwr (base rt : Reg) (offset : Imm)
  /-- LDL (R324). -/
  | ldl (base rt : Reg) (offset : Imm)
  /-- LDR (R325). -/
  | ldr (base rt : Reg) (offset : Imm)
  /-- SB (R326). -/
  | sb (base rt : Reg) (offset : Imm)
  /-- SH (R327). -/
  | sh (base rt : Reg) (offset : Imm)
  /-- SW (R328). -/
  | sw (base rt : Reg) (offset : Imm)
  /-- SD (R329). -/
  | sd (base rt : Reg) (offset : Imm)
  /-- LL (R330). -/
  | ll (base rt : Reg) (offset : Imm)
  /-- LLD (R331). -/
  | lld (base rt : Reg) (offset : Imm)
  /-- SC (R332). -/
  | sc (base rt : Reg) (offset : Imm)
  /-- SCD (R333). -/
  | scd (base rt : Reg) (offset : Imm)
  /-- SWL (R334). -/
  | swl (base rt : Reg) (offset : Imm)
  /-- SWR (R335). -/
  | swr (base rt : Reg) (offset : Imm)
  /-- SDL (R336). -/
  | sdl (base rt : Reg) (offset : Imm)
  /-- SDR (R337). -/
  | sdr (base rt : Reg) (offset : Imm)
  -- System instructions (44_system.md)
  /-- SYSCALL (R341). -/
  | syscall (code : BitVec 20)
  /-- BREAK (R342). -/
  | brk (code : BitVec 20)
  /-- TGE (R343). -/
  | tge (rs rt : Reg) (code : BitVec 10)
  /-- TGEU (R344). -/
  | tgeu (rs rt : Reg) (code : BitVec 10)
  /-- TLT (R345). -/
  | tlt (rs rt : Reg) (code : BitVec 10)
  /-- TLTU (R346). -/
  | tltu (rs rt : Reg) (code : BitVec 10)
  /-- TEQ (R347). -/
  | teq (rs rt : Reg) (code : BitVec 10)
  /-- TNE (R348). -/
  | tne (rs rt : Reg) (code : BitVec 10)
  /-- TGEI (R349). -/
  | tgei (rs : Reg) (imm : Imm)
  /-- TGEIU (R350). -/
  | tgeiu (rs : Reg) (imm : Imm)
  /-- TLTI (R351). -/
  | tlti (rs : Reg) (imm : Imm)
  /-- TLTIU (R352). -/
  | tltiu (rs : Reg) (imm : Imm)
  /-- TEQI (R353). -/
  | teqi (rs : Reg) (imm : Imm)
  /-- TNEI (R354). -/
  | tnei (rs : Reg) (imm : Imm)
  /-- SYNC (R356). -/
  | sync (stype : BitVec 5)
  /-- CACHE (R357). -/
  | cache (base : Reg) (op : BitVec 5) (offset : Imm)
  /-- MFC0 (R361). -/
  | mfc0 (rt rd : Reg)
  /-- DMFC0 (R362). -/
  | dmfc0 (rt rd : Reg)
  /-- MTC0 (R363). -/
  | mtc0 (rt rd : Reg)
  /-- DMTC0 (R364). -/
  | dmtc0 (rt rd : Reg)
  /-- TLBWI (R371). -/
  | tlbwi
  /-- TLBWR (R372). -/
  | tlbwr
  /-- TLBR (R373). -/
  | tlbr
  /-- TLBP (R374). -/
  | tlbp
  /-- ERET (R376). -/
  | eret
  -- COP1 (45_cop1.md)
  /-- CFC1 (R383). -/
  | cfc1 (rt fs : Reg)
  /-- CTC1 (R386). -/
  | ctc1 (rt fs : Reg)
  /-- MFC1 (R384). -/
  | mfc1 (rt fs : Reg)
  /-- DMFC1 (R385). -/
  | dmfc1 (rt fs : Reg)
  /-- MTC1 (R387). -/
  | mtc1 (rt fs : Reg)
  /-- DMTC1 (R388). -/
  | dmtc1 (rt fs : Reg)
  /-- BC1F (R389). -/
  | bc1f (offset : Imm)
  /-- BC1T (R390). -/
  | bc1t (offset : Imm)
  /-- BC1FL (R391). -/
  | bc1fl (offset : Imm)
  /-- BC1TL (R392). -/
  | bc1tl (offset : Imm)
  /-- LWC1 (R393). -/
  | lwc1 (base ft : Reg) (offset : Imm)
  /-- LDC1 (R394). -/
  | ldc1 (base ft : Reg) (offset : Imm)
  /-- SWC1 (R395). -/
  | swc1 (base ft : Reg) (offset : Imm)
  /-- SDC1 (R396). -/
  | sdc1 (base ft : Reg) (offset : Imm)
  /-- FP-COMPUTE.S (R399). -/
  | fpComputeS (ft fs fd : Reg) (funct : BitVec 6)
  /-- FP-COMPUTE.D (R399). -/
  | fpComputeD (ft fs fd : Reg) (funct : BitVec 6)
  /-- FP-COMPUTE.W (R399). -/
  | fpComputeW (ft fs fd : Reg) (funct : BitVec 6)
  /-- FP-COMPUTE.L (R399). -/
  | fpComputeL (ft fs fd : Reg) (funct : BitVec 6)
  deriving DecidableEq, Repr

end Sys2Proof
end

