-- ==== Sys2Proof/WellFormed.lean ====
section
/-! DEFINITION. Well-formed instructions. Register numbers, immediates and codes are bounded by their types, so the one
check left is that a coprocessor-register operand names a register this core has (R29, R365, R382). An ill-formed
instruction still has a word, decodes from it (R164) and has a meaning: Fatal (R365, R383, R386) (log 21). -/

namespace Sys2Proof

/-- The COP0 register numbers the spec names (R29); 7, 21 to 29 and 31 are not among them (R365). -/
def cop0Named (n : BitVec 5) : Bool := !([7#5, 21#5, 22#5, 23#5, 24#5, 25#5, 26#5, 27#5, 28#5, 29#5, 31#5].contains n)

/-- The coprocessor-register operand of an instruction, if it has one, names a register of the core. -/
def Instr.wellFormed : Instr → Bool
  | .mfc0 _ rd | .dmfc0 _ rd | .mtc0 _ rd | .dmtc0 _ rd => cop0Named rd
  | .cfc1 _ fs => fs == 0#5 || fs == 31#5
  | .ctc1 _ fs => fs == 31#5
  | _ => true

end Sys2Proof
end

