-- ==== Sys2Proof/Decode.lean ====
section
/-! DEFINITION. Decoding a 32-bit word into exactly one instruction or a named rejection (R160 to R173), and the encoder,
written from the same maps. The decoder reads selector fields only; every other bit that MIPS III wants zero is ignored
(R165), and the encoder writes such bits as zero. -/

namespace Sys2Proof

/-- Why a word, or a byte string, is no instruction (R166). -/
inductive DecodeError where
  /-- Fewer than four bytes are left (R160). -/
  | tooShort
  /-- An `opcode` marked `*` in the primary map (R169). -/
  | unknownOpcode (opcode : BitVec 6)
  /-- A `funct` marked `*` in the SPECIAL map (R170). -/
  | unknownSpecial (funct : BitVec 6)
  /-- An `rt` marked `*` in the REGIMM map (R171). -/
  | unknownRegimm (rt : BitVec 5)
  /-- A COP0 `rs` with `co = 0` that selects nothing (R172). -/
  | unknownCop0Move (rs : BitVec 5)
  /-- A COP0 `funct` with `co = 1` that selects nothing (R172). -/
  | unknownCop0Function (funct : BitVec 6)
  /-- A COP1 `rs` that selects nothing (R173). -/
  | unknownCop1 (rs : BitVec 5)
  deriving DecidableEq, Repr

/-! ## The fields of a word (R161) -/

def fieldOpcode (w : Word) : BitVec 6 := w.extractLsb' 26 6
def fieldRs (w : Word) : BitVec 5 := w.extractLsb' 21 5
def fieldRt (w : Word) : BitVec 5 := w.extractLsb' 16 5
def fieldRd (w : Word) : BitVec 5 := w.extractLsb' 11 5
def fieldSa (w : Word) : BitVec 5 := w.extractLsb' 6 5
def fieldFunct (w : Word) : BitVec 6 := w.extractLsb' 0 6
def fieldImm (w : Word) : Imm := w.extractLsb' 0 16
def fieldIndex (w : Word) : BitVec 26 := w.extractLsb' 0 26
def fieldCode (w : Word) : BitVec 20 := w.extractLsb' 6 20
def fieldTcode (w : Word) : BitVec 10 := w.extractLsb' 6 10
def fieldCo (w : Word) : Bool := w.getLsbD 25

/-! ## The opcode maps -/

/-- SPECIAL, `opcode = 0`, selected by `funct` (R170). -/
def decodeSpecial (w : Word) : Except DecodeError Instr :=
  match (fieldFunct w).toNat with
  | 0x00 => .ok (.sll (fieldRt w) (fieldRd w) (fieldSa w))
  | 0x02 => .ok (.srl (fieldRt w) (fieldRd w) (fieldSa w))
  | 0x03 => .ok (.sra (fieldRt w) (fieldRd w) (fieldSa w))
  | 0x04 => .ok (.sllv (fieldRs w) (fieldRt w) (fieldRd w))
  | 0x06 => .ok (.srlv (fieldRs w) (fieldRt w) (fieldRd w))
  | 0x07 => .ok (.srav (fieldRs w) (fieldRt w) (fieldRd w))
  | 0x08 => .ok (.jr (fieldRs w))
  | 0x09 => .ok (.jalr (fieldRs w) (fieldRd w))
  | 0x0C => .ok (.syscall (fieldCode w))
  | 0x0D => .ok (.brk (fieldCode w))
  | 0x0F => .ok (.sync (fieldSa w))
  | 0x10 => .ok (.mfhi (fieldRd w))
  | 0x11 => .ok (.mthi (fieldRs w))
  | 0x12 => .ok (.mflo (fieldRd w))
  | 0x13 => .ok (.mtlo (fieldRs w))
  | 0x14 => .ok (.dsllv (fieldRs w) (fieldRt w) (fieldRd w))
  | 0x16 => .ok (.dsrlv (fieldRs w) (fieldRt w) (fieldRd w))
  | 0x17 => .ok (.dsrav (fieldRs w) (fieldRt w) (fieldRd w))
  | 0x18 => .ok (.mult (fieldRs w) (fieldRt w))
  | 0x19 => .ok (.multu (fieldRs w) (fieldRt w))
  | 0x1A => .ok (.div (fieldRs w) (fieldRt w))
  | 0x1B => .ok (.divu (fieldRs w) (fieldRt w))
  | 0x1C => .ok (.dmult (fieldRs w) (fieldRt w))
  | 0x1D => .ok (.dmultu (fieldRs w) (fieldRt w))
  | 0x1E => .ok (.ddiv (fieldRs w) (fieldRt w))
  | 0x1F => .ok (.ddivu (fieldRs w) (fieldRt w))
  | 0x20 => .ok (.add (fieldRs w) (fieldRt w) (fieldRd w))
  | 0x21 => .ok (.addu (fieldRs w) (fieldRt w) (fieldRd w))
  | 0x22 => .ok (.sub (fieldRs w) (fieldRt w) (fieldRd w))
  | 0x23 => .ok (.subu (fieldRs w) (fieldRt w) (fieldRd w))
  | 0x24 => .ok (.and (fieldRs w) (fieldRt w) (fieldRd w))
  | 0x25 => .ok (.or (fieldRs w) (fieldRt w) (fieldRd w))
  | 0x26 => .ok (.xor (fieldRs w) (fieldRt w) (fieldRd w))
  | 0x27 => .ok (.nor (fieldRs w) (fieldRt w) (fieldRd w))
  | 0x2A => .ok (.slt (fieldRs w) (fieldRt w) (fieldRd w))
  | 0x2B => .ok (.sltu (fieldRs w) (fieldRt w) (fieldRd w))
  | 0x2C => .ok (.dadd (fieldRs w) (fieldRt w) (fieldRd w))
  | 0x2D => .ok (.daddu (fieldRs w) (fieldRt w) (fieldRd w))
  | 0x2E => .ok (.dsub (fieldRs w) (fieldRt w) (fieldRd w))
  | 0x2F => .ok (.dsubu (fieldRs w) (fieldRt w) (fieldRd w))
  | 0x30 => .ok (.tge (fieldRs w) (fieldRt w) (fieldTcode w))
  | 0x31 => .ok (.tgeu (fieldRs w) (fieldRt w) (fieldTcode w))
  | 0x32 => .ok (.tlt (fieldRs w) (fieldRt w) (fieldTcode w))
  | 0x33 => .ok (.tltu (fieldRs w) (fieldRt w) (fieldTcode w))
  | 0x34 => .ok (.teq (fieldRs w) (fieldRt w) (fieldTcode w))
  | 0x36 => .ok (.tne (fieldRs w) (fieldRt w) (fieldTcode w))
  | 0x38 => .ok (.dsll (fieldRt w) (fieldRd w) (fieldSa w))
  | 0x3A => .ok (.dsrl (fieldRt w) (fieldRd w) (fieldSa w))
  | 0x3B => .ok (.dsra (fieldRt w) (fieldRd w) (fieldSa w))
  | 0x3C => .ok (.dsll32 (fieldRt w) (fieldRd w) (fieldSa w))
  | 0x3E => .ok (.dsrl32 (fieldRt w) (fieldRd w) (fieldSa w))
  | 0x3F => .ok (.dsra32 (fieldRt w) (fieldRd w) (fieldSa w))
  | _ => .error (.unknownSpecial (fieldFunct w))

/-- REGIMM, `opcode = 1`, selected by `rt` (R171). -/
def decodeRegimm (w : Word) : Except DecodeError Instr :=
  match (fieldRt w).toNat with
  | 0x00 => .ok (.bltz (fieldRs w) (fieldImm w))
  | 0x01 => .ok (.bgez (fieldRs w) (fieldImm w))
  | 0x02 => .ok (.bltzl (fieldRs w) (fieldImm w))
  | 0x03 => .ok (.bgezl (fieldRs w) (fieldImm w))
  | 0x08 => .ok (.tgei (fieldRs w) (fieldImm w))
  | 0x09 => .ok (.tgeiu (fieldRs w) (fieldImm w))
  | 0x0A => .ok (.tlti (fieldRs w) (fieldImm w))
  | 0x0B => .ok (.tltiu (fieldRs w) (fieldImm w))
  | 0x0C => .ok (.teqi (fieldRs w) (fieldImm w))
  | 0x0E => .ok (.tnei (fieldRs w) (fieldImm w))
  | 0x10 => .ok (.bltzal (fieldRs w) (fieldImm w))
  | 0x11 => .ok (.bgezal (fieldRs w) (fieldImm w))
  | 0x12 => .ok (.bltzall (fieldRs w) (fieldImm w))
  | 0x13 => .ok (.bgezall (fieldRs w) (fieldImm w))
  | _ => .error (.unknownRegimm (fieldRt w))

/-- COP0 with `co = 1`, selected by `funct` (R172). -/
def decodeCop0Function (w : Word) : Except DecodeError Instr :=
  match (fieldFunct w).toNat with
  | 0x01 => .ok (.tlbr)
  | 0x02 => .ok (.tlbwi)
  | 0x06 => .ok (.tlbwr)
  | 0x08 => .ok (.tlbp)
  | 0x18 => .ok (.eret)
  | _ => .error (.unknownCop0Function (fieldFunct w))

/-- COP0 with `co = 0`, selected by `rs` (R172). -/
def decodeCop0Move (w : Word) : Except DecodeError Instr :=
  match (fieldRs w).toNat with
  | 0x00 => .ok (.mfc0 (fieldRt w) (fieldRd w))
  | 0x01 => .ok (.dmfc0 (fieldRt w) (fieldRd w))
  | 0x04 => .ok (.mtc0 (fieldRt w) (fieldRd w))
  | 0x05 => .ok (.dmtc0 (fieldRt w) (fieldRd w))
  | _ => .error (.unknownCop0Move (fieldRs w))

/-- BC1, selected by `rt[1:0]` (R173). -/
def decodeBc1 (w : Word) : Instr :=
  match ((fieldRt w).setWidth 2).toNat with
  | 0 => .bc1f (fieldImm w)
  | 1 => .bc1t (fieldImm w)
  | 2 => .bc1fl (fieldImm w)
  | _ => .bc1tl (fieldImm w)

/-- COP1, `opcode = 0x11`, selected by `rs` (R173). -/
def decodeCop1 (w : Word) : Except DecodeError Instr :=
  match (fieldRs w).toNat with
  | 0x00 => .ok (.mfc1 (fieldRt w) (fieldRd w))
  | 0x01 => .ok (.dmfc1 (fieldRt w) (fieldRd w))
  | 0x02 => .ok (.cfc1 (fieldRt w) (fieldRd w))
  | 0x04 => .ok (.mtc1 (fieldRt w) (fieldRd w))
  | 0x05 => .ok (.dmtc1 (fieldRt w) (fieldRd w))
  | 0x06 => .ok (.ctc1 (fieldRt w) (fieldRd w))
  | 0x08 => .ok (decodeBc1 w)
  | 0x10 => .ok (.fpComputeS (fieldRt w) (fieldRd w) (fieldSa w) (fieldFunct w))
  | 0x11 => .ok (.fpComputeD (fieldRt w) (fieldRd w) (fieldSa w) (fieldFunct w))
  | 0x14 => .ok (.fpComputeW (fieldRt w) (fieldRd w) (fieldSa w) (fieldFunct w))
  | 0x15 => .ok (.fpComputeL (fieldRt w) (fieldRd w) (fieldSa w) (fieldFunct w))
  | _ => .error (.unknownCop1 (fieldRs w))

/-- Decode a word (R164): total, one instruction or a named rejection. -/
def decode (w : Word) : Except DecodeError Instr :=
  match (fieldOpcode w).toNat with
  | 0x00 => decodeSpecial w
  | 0x01 => decodeRegimm w
  | 0x02 => .ok (.j (fieldIndex w))
  | 0x03 => .ok (.jal (fieldIndex w))
  | 0x04 => .ok (.beq (fieldRs w) (fieldRt w) (fieldImm w))
  | 0x05 => .ok (.bne (fieldRs w) (fieldRt w) (fieldImm w))
  | 0x06 => .ok (.blez (fieldRs w) (fieldImm w))
  | 0x07 => .ok (.bgtz (fieldRs w) (fieldImm w))
  | 0x08 => .ok (.addi (fieldRs w) (fieldRt w) (fieldImm w))
  | 0x09 => .ok (.addiu (fieldRs w) (fieldRt w) (fieldImm w))
  | 0x0A => .ok (.slti (fieldRs w) (fieldRt w) (fieldImm w))
  | 0x0B => .ok (.sltiu (fieldRs w) (fieldRt w) (fieldImm w))
  | 0x0C => .ok (.andi (fieldRs w) (fieldRt w) (fieldImm w))
  | 0x0D => .ok (.ori (fieldRs w) (fieldRt w) (fieldImm w))
  | 0x0E => .ok (.xori (fieldRs w) (fieldRt w) (fieldImm w))
  | 0x0F => .ok (.lui (fieldRt w) (fieldImm w))
  | 0x10 => if fieldCo w then decodeCop0Function w else decodeCop0Move w
  | 0x11 => decodeCop1 w
  | 0x14 => .ok (.beql (fieldRs w) (fieldRt w) (fieldImm w))
  | 0x15 => .ok (.bnel (fieldRs w) (fieldRt w) (fieldImm w))
  | 0x16 => .ok (.blezl (fieldRs w) (fieldImm w))
  | 0x17 => .ok (.bgtzl (fieldRs w) (fieldImm w))
  | 0x18 => .ok (.daddi (fieldRs w) (fieldRt w) (fieldImm w))
  | 0x19 => .ok (.daddiu (fieldRs w) (fieldRt w) (fieldImm w))
  | 0x1A => .ok (.ldl (fieldRs w) (fieldRt w) (fieldImm w))
  | 0x1B => .ok (.ldr (fieldRs w) (fieldRt w) (fieldImm w))
  | 0x20 => .ok (.lb (fieldRs w) (fieldRt w) (fieldImm w))
  | 0x21 => .ok (.lh (fieldRs w) (fieldRt w) (fieldImm w))
  | 0x22 => .ok (.lwl (fieldRs w) (fieldRt w) (fieldImm w))
  | 0x23 => .ok (.lw (fieldRs w) (fieldRt w) (fieldImm w))
  | 0x24 => .ok (.lbu (fieldRs w) (fieldRt w) (fieldImm w))
  | 0x25 => .ok (.lhu (fieldRs w) (fieldRt w) (fieldImm w))
  | 0x26 => .ok (.lwr (fieldRs w) (fieldRt w) (fieldImm w))
  | 0x27 => .ok (.lwu (fieldRs w) (fieldRt w) (fieldImm w))
  | 0x28 => .ok (.sb (fieldRs w) (fieldRt w) (fieldImm w))
  | 0x29 => .ok (.sh (fieldRs w) (fieldRt w) (fieldImm w))
  | 0x2A => .ok (.swl (fieldRs w) (fieldRt w) (fieldImm w))
  | 0x2B => .ok (.sw (fieldRs w) (fieldRt w) (fieldImm w))
  | 0x2C => .ok (.sdl (fieldRs w) (fieldRt w) (fieldImm w))
  | 0x2D => .ok (.sdr (fieldRs w) (fieldRt w) (fieldImm w))
  | 0x2E => .ok (.swr (fieldRs w) (fieldRt w) (fieldImm w))
  | 0x2F => .ok (.cache (fieldRs w) (fieldRt w) (fieldImm w))
  | 0x30 => .ok (.ll (fieldRs w) (fieldRt w) (fieldImm w))
  | 0x31 => .ok (.lwc1 (fieldRs w) (fieldRt w) (fieldImm w))
  | 0x34 => .ok (.lld (fieldRs w) (fieldRt w) (fieldImm w))
  | 0x35 => .ok (.ldc1 (fieldRs w) (fieldRt w) (fieldImm w))
  | 0x37 => .ok (.ld (fieldRs w) (fieldRt w) (fieldImm w))
  | 0x38 => .ok (.sc (fieldRs w) (fieldRt w) (fieldImm w))
  | 0x39 => .ok (.swc1 (fieldRs w) (fieldRt w) (fieldImm w))
  | 0x3C => .ok (.scd (fieldRs w) (fieldRt w) (fieldImm w))
  | 0x3D => .ok (.sdc1 (fieldRs w) (fieldRt w) (fieldImm w))
  | 0x3F => .ok (.sd (fieldRs w) (fieldRt w) (fieldImm w))
  | _ => .error (.unknownOpcode (fieldOpcode w))

/-- The big-endian word of four bytes, the first at the lowest address (R117, R160). -/
def wordOfBytes (b0 b1 b2 b3 : Byte) : Word := b0 ++ b1 ++ b2 ++ b3

/-- The four bytes of a word as memory holds them, the most significant first (R117). -/
def bytesOfWord (w : Word) : List Byte :=
  [w.extractLsb' 24 8, w.extractLsb' 16 8, w.extractLsb' 8 8, w.extractLsb' 0 8]

/-- Decode a byte string: the instruction of its first four bytes, and the bytes after them (R160). -/
def decodeBytes : List Byte → Except DecodeError (Instr × List Byte)
  | b0 :: b1 :: b2 :: b3 :: rest =>
    match decode (wordOfBytes b0 b1 b2 b3) with
    | .ok i => .ok (i, rest)
    | .error e => .error e
  | _ => .error .tooShort

/-- The word whose low `nbits` bits are those of `w` and whose other bits are zero. -/
def tableWord (nbits w : Nat) : Word := BitVec.ofNat 32 (w % 2 ^ nbits)

/-- The instruction the decoder reads from a word numbered as spec/opcode_table.json numbers its bits. -/
def decodeTableWord (nbits w : Nat) : Option Instr :=
  match decodeBytes (bytesOfWord (tableWord nbits w)) with
  | .ok (i, _) => some i
  | .error _ => none

/-! ## The encoder: the layouts of R162 -/

/-- Layouts R and C. -/
def layoutR (op : BitVec 6) (rs rt rd sa : BitVec 5) (funct : BitVec 6) : Word :=
  op ++ rs ++ rt ++ rd ++ sa ++ funct

/-- Layout I. -/
def layoutI (op : BitVec 6) (rs rt : BitVec 5) (imm : Imm) : Word := op ++ rs ++ rt ++ imm

/-- Layout J. -/
def layoutJ (op : BitVec 6) (index : BitVec 26) : Word := op ++ index

/-- SYSCALL and BREAK: a 20-bit code. -/
def layoutCode (code : BitVec 20) (funct : BitVec 6) : Word := 0#6 ++ code ++ funct

/-- The register traps: a 10-bit code. -/
def layoutTcode (rs rt : BitVec 5) (code : BitVec 10) (funct : BitVec 6) : Word := 0#6 ++ rs ++ rt ++ code ++ funct

/-- The word of an instruction, its ignored bits zero (R165, R169 to R173). -/
def encode (i : Instr) : Word :=
  match i with
  | .add rs rt rd => layoutR 0x00#6 rs rt rd 0x00#5 0x20#6
  | .addu rs rt rd => layoutR 0x00#6 rs rt rd 0x00#5 0x21#6
  | .sub rs rt rd => layoutR 0x00#6 rs rt rd 0x00#5 0x22#6
  | .subu rs rt rd => layoutR 0x00#6 rs rt rd 0x00#5 0x23#6
  | .addi rs rt imm => layoutI 0x08#6 rs rt imm
  | .addiu rs rt imm => layoutI 0x09#6 rs rt imm
  | .dadd rs rt rd => layoutR 0x00#6 rs rt rd 0x00#5 0x2C#6
  | .daddu rs rt rd => layoutR 0x00#6 rs rt rd 0x00#5 0x2D#6
  | .dsub rs rt rd => layoutR 0x00#6 rs rt rd 0x00#5 0x2E#6
  | .dsubu rs rt rd => layoutR 0x00#6 rs rt rd 0x00#5 0x2F#6
  | .daddi rs rt imm => layoutI 0x18#6 rs rt imm
  | .daddiu rs rt imm => layoutI 0x19#6 rs rt imm
  | .slt rs rt rd => layoutR 0x00#6 rs rt rd 0x00#5 0x2A#6
  | .sltu rs rt rd => layoutR 0x00#6 rs rt rd 0x00#5 0x2B#6
  | .slti rs rt imm => layoutI 0x0A#6 rs rt imm
  | .sltiu rs rt imm => layoutI 0x0B#6 rs rt imm
  | .and rs rt rd => layoutR 0x00#6 rs rt rd 0x00#5 0x24#6
  | .or rs rt rd => layoutR 0x00#6 rs rt rd 0x00#5 0x25#6
  | .xor rs rt rd => layoutR 0x00#6 rs rt rd 0x00#5 0x26#6
  | .nor rs rt rd => layoutR 0x00#6 rs rt rd 0x00#5 0x27#6
  | .andi rs rt imm => layoutI 0x0C#6 rs rt imm
  | .ori rs rt imm => layoutI 0x0D#6 rs rt imm
  | .xori rs rt imm => layoutI 0x0E#6 rs rt imm
  | .lui rt imm => layoutI 0x0F#6 0x00#5 rt imm
  | .sll rt rd sa => layoutR 0x00#6 0x00#5 rt rd sa 0x00#6
  | .srl rt rd sa => layoutR 0x00#6 0x00#5 rt rd sa 0x02#6
  | .sra rt rd sa => layoutR 0x00#6 0x00#5 rt rd sa 0x03#6
  | .sllv rs rt rd => layoutR 0x00#6 rs rt rd 0x00#5 0x04#6
  | .srlv rs rt rd => layoutR 0x00#6 rs rt rd 0x00#5 0x06#6
  | .srav rs rt rd => layoutR 0x00#6 rs rt rd 0x00#5 0x07#6
  | .dsll rt rd sa => layoutR 0x00#6 0x00#5 rt rd sa 0x38#6
  | .dsrl rt rd sa => layoutR 0x00#6 0x00#5 rt rd sa 0x3A#6
  | .dsra rt rd sa => layoutR 0x00#6 0x00#5 rt rd sa 0x3B#6
  | .dsll32 rt rd sa => layoutR 0x00#6 0x00#5 rt rd sa 0x3C#6
  | .dsrl32 rt rd sa => layoutR 0x00#6 0x00#5 rt rd sa 0x3E#6
  | .dsra32 rt rd sa => layoutR 0x00#6 0x00#5 rt rd sa 0x3F#6
  | .dsllv rs rt rd => layoutR 0x00#6 rs rt rd 0x00#5 0x14#6
  | .dsrlv rs rt rd => layoutR 0x00#6 rs rt rd 0x00#5 0x16#6
  | .dsrav rs rt rd => layoutR 0x00#6 rs rt rd 0x00#5 0x17#6
  | .mfhi rd => layoutR 0x00#6 0x00#5 0x00#5 rd 0x00#5 0x10#6
  | .mthi rs => layoutR 0x00#6 rs 0x00#5 0x00#5 0x00#5 0x11#6
  | .mflo rd => layoutR 0x00#6 0x00#5 0x00#5 rd 0x00#5 0x12#6
  | .mtlo rs => layoutR 0x00#6 rs 0x00#5 0x00#5 0x00#5 0x13#6
  | .mult rs rt => layoutR 0x00#6 rs rt 0x00#5 0x00#5 0x18#6
  | .multu rs rt => layoutR 0x00#6 rs rt 0x00#5 0x00#5 0x19#6
  | .dmult rs rt => layoutR 0x00#6 rs rt 0x00#5 0x00#5 0x1C#6
  | .dmultu rs rt => layoutR 0x00#6 rs rt 0x00#5 0x00#5 0x1D#6
  | .div rs rt => layoutR 0x00#6 rs rt 0x00#5 0x00#5 0x1A#6
  | .divu rs rt => layoutR 0x00#6 rs rt 0x00#5 0x00#5 0x1B#6
  | .ddiv rs rt => layoutR 0x00#6 rs rt 0x00#5 0x00#5 0x1E#6
  | .ddivu rs rt => layoutR 0x00#6 rs rt 0x00#5 0x00#5 0x1F#6
  | .beq rs rt offset => layoutI 0x04#6 rs rt offset
  | .bne rs rt offset => layoutI 0x05#6 rs rt offset
  | .blez rs offset => layoutI 0x06#6 rs 0x00#5 offset
  | .bgtz rs offset => layoutI 0x07#6 rs 0x00#5 offset
  | .bltz rs offset => layoutI 0x01#6 rs 0x00#5 offset
  | .bgez rs offset => layoutI 0x01#6 rs 0x01#5 offset
  | .bltzal rs offset => layoutI 0x01#6 rs 0x10#5 offset
  | .bgezal rs offset => layoutI 0x01#6 rs 0x11#5 offset
  | .beql rs rt offset => layoutI 0x14#6 rs rt offset
  | .bnel rs rt offset => layoutI 0x15#6 rs rt offset
  | .blezl rs offset => layoutI 0x16#6 rs 0x00#5 offset
  | .bgtzl rs offset => layoutI 0x17#6 rs 0x00#5 offset
  | .bltzl rs offset => layoutI 0x01#6 rs 0x02#5 offset
  | .bgezl rs offset => layoutI 0x01#6 rs 0x03#5 offset
  | .bltzall rs offset => layoutI 0x01#6 rs 0x12#5 offset
  | .bgezall rs offset => layoutI 0x01#6 rs 0x13#5 offset
  | .j index => layoutJ 0x02#6 index
  | .jal index => layoutJ 0x03#6 index
  | .jr rs => layoutR 0x00#6 rs 0x00#5 0x00#5 0x00#5 0x08#6
  | .jalr rs rd => layoutR 0x00#6 rs 0x00#5 rd 0x00#5 0x09#6
  | .lb base rt offset => layoutI 0x20#6 base rt offset
  | .lbu base rt offset => layoutI 0x24#6 base rt offset
  | .lh base rt offset => layoutI 0x21#6 base rt offset
  | .lhu base rt offset => layoutI 0x25#6 base rt offset
  | .lw base rt offset => layoutI 0x23#6 base rt offset
  | .lwu base rt offset => layoutI 0x27#6 base rt offset
  | .ld base rt offset => layoutI 0x37#6 base rt offset
  | .lwl base rt offset => layoutI 0x22#6 base rt offset
  | .lwr base rt offset => layoutI 0x26#6 base rt offset
  | .ldl base rt offset => layoutI 0x1A#6 base rt offset
  | .ldr base rt offset => layoutI 0x1B#6 base rt offset
  | .sb base rt offset => layoutI 0x28#6 base rt offset
  | .sh base rt offset => layoutI 0x29#6 base rt offset
  | .sw base rt offset => layoutI 0x2B#6 base rt offset
  | .sd base rt offset => layoutI 0x3F#6 base rt offset
  | .ll base rt offset => layoutI 0x30#6 base rt offset
  | .lld base rt offset => layoutI 0x34#6 base rt offset
  | .sc base rt offset => layoutI 0x38#6 base rt offset
  | .scd base rt offset => layoutI 0x3C#6 base rt offset
  | .swl base rt offset => layoutI 0x2A#6 base rt offset
  | .swr base rt offset => layoutI 0x2E#6 base rt offset
  | .sdl base rt offset => layoutI 0x2C#6 base rt offset
  | .sdr base rt offset => layoutI 0x2D#6 base rt offset
  | .syscall code => layoutCode code 0x0C#6
  | .brk code => layoutCode code 0x0D#6
  | .tge rs rt code => layoutTcode rs rt code 0x30#6
  | .tgeu rs rt code => layoutTcode rs rt code 0x31#6
  | .tlt rs rt code => layoutTcode rs rt code 0x32#6
  | .tltu rs rt code => layoutTcode rs rt code 0x33#6
  | .teq rs rt code => layoutTcode rs rt code 0x34#6
  | .tne rs rt code => layoutTcode rs rt code 0x36#6
  | .tgei rs imm => layoutI 0x01#6 rs 0x08#5 imm
  | .tgeiu rs imm => layoutI 0x01#6 rs 0x09#5 imm
  | .tlti rs imm => layoutI 0x01#6 rs 0x0A#5 imm
  | .tltiu rs imm => layoutI 0x01#6 rs 0x0B#5 imm
  | .teqi rs imm => layoutI 0x01#6 rs 0x0C#5 imm
  | .tnei rs imm => layoutI 0x01#6 rs 0x0E#5 imm
  | .sync stype => layoutR 0x00#6 0x00#5 0x00#5 0x00#5 stype 0x0F#6
  | .cache base op offset => layoutI 0x2F#6 base op offset
  | .mfc0 rt rd => layoutR 0x10#6 0x00#5 rt rd 0x00#5 0x00#6
  | .dmfc0 rt rd => layoutR 0x10#6 0x01#5 rt rd 0x00#5 0x00#6
  | .mtc0 rt rd => layoutR 0x10#6 0x04#5 rt rd 0x00#5 0x00#6
  | .dmtc0 rt rd => layoutR 0x10#6 0x05#5 rt rd 0x00#5 0x00#6
  | .tlbwi => layoutR 0x10#6 0x10#5 0x00#5 0x00#5 0x00#5 0x02#6
  | .tlbwr => layoutR 0x10#6 0x10#5 0x00#5 0x00#5 0x00#5 0x06#6
  | .tlbr => layoutR 0x10#6 0x10#5 0x00#5 0x00#5 0x00#5 0x01#6
  | .tlbp => layoutR 0x10#6 0x10#5 0x00#5 0x00#5 0x00#5 0x08#6
  | .eret => layoutR 0x10#6 0x10#5 0x00#5 0x00#5 0x00#5 0x18#6
  | .cfc1 rt fs => layoutR 0x11#6 0x02#5 rt fs 0x00#5 0x00#6
  | .ctc1 rt fs => layoutR 0x11#6 0x06#5 rt fs 0x00#5 0x00#6
  | .mfc1 rt fs => layoutR 0x11#6 0x00#5 rt fs 0x00#5 0x00#6
  | .dmfc1 rt fs => layoutR 0x11#6 0x01#5 rt fs 0x00#5 0x00#6
  | .mtc1 rt fs => layoutR 0x11#6 0x04#5 rt fs 0x00#5 0x00#6
  | .dmtc1 rt fs => layoutR 0x11#6 0x05#5 rt fs 0x00#5 0x00#6
  | .bc1f offset => layoutI 0x11#6 0x08#5 0x00#5 offset
  | .bc1t offset => layoutI 0x11#6 0x08#5 0x01#5 offset
  | .bc1fl offset => layoutI 0x11#6 0x08#5 0x02#5 offset
  | .bc1tl offset => layoutI 0x11#6 0x08#5 0x03#5 offset
  | .lwc1 base ft offset => layoutI 0x31#6 base ft offset
  | .ldc1 base ft offset => layoutI 0x35#6 base ft offset
  | .swc1 base ft offset => layoutI 0x39#6 base ft offset
  | .sdc1 base ft offset => layoutI 0x3D#6 base ft offset
  | .fpComputeS ft fs fd funct => layoutR 0x11#6 0x10#5 ft fs fd funct
  | .fpComputeD ft fs fd funct => layoutR 0x11#6 0x11#5 ft fs fd funct
  | .fpComputeW ft fs fd funct => layoutR 0x11#6 0x14#5 ft fs fd funct
  | .fpComputeL ft fs fd funct => layoutR 0x11#6 0x15#5 ft fs fd funct

/-- The bits of an instruction's word that the decoder reads: its selector fields and its operands. Every other bit is
ignored (R165). -/
def usedBits (i : Instr) : Word :=
  match i with
  | .add _ _ _ | .addu _ _ _ | .sub _ _ _ | .subu _ _ _ | .dadd _ _ _ | .daddu _ _ _ | .dsub _ _ _
  | .dsubu _ _ _ | .slt _ _ _ | .sltu _ _ _ | .and _ _ _ | .or _ _ _ | .xor _ _ _ | .nor _ _ _ | .sllv _ _ _
  | .srlv _ _ _ | .srav _ _ _ | .dsllv _ _ _ | .dsrlv _ _ _ | .dsrav _ _ _ => 0xFFFFF83F#32
  | .addi _ _ _ | .addiu _ _ _ | .daddi _ _ _ | .daddiu _ _ _ | .slti _ _ _ | .sltiu _ _ _ | .andi _ _ _
  | .ori _ _ _ | .xori _ _ _ | .beq _ _ _ | .bne _ _ _ | .bltz _ _ | .bgez _ _ | .bltzal _ _ | .bgezal _ _
  | .beql _ _ _ | .bnel _ _ _ | .bltzl _ _ | .bgezl _ _ | .bltzall _ _ | .bgezall _ _ | .j _ | .jal _
  | .lb _ _ _ | .lbu _ _ _ | .lh _ _ _ | .lhu _ _ _ | .lw _ _ _ | .lwu _ _ _ | .ld _ _ _ | .lwl _ _ _
  | .lwr _ _ _ | .ldl _ _ _ | .ldr _ _ _ | .sb _ _ _ | .sh _ _ _ | .sw _ _ _ | .sd _ _ _ | .ll _ _ _
  | .lld _ _ _ | .sc _ _ _ | .scd _ _ _ | .swl _ _ _ | .swr _ _ _ | .sdl _ _ _ | .sdr _ _ _ | .syscall _
  | .brk _ | .tge _ _ _ | .tgeu _ _ _ | .tlt _ _ _ | .tltu _ _ _ | .teq _ _ _ | .tne _ _ _ | .tgei _ _
  | .tgeiu _ _ | .tlti _ _ | .tltiu _ _ | .teqi _ _ | .tnei _ _ | .cache _ _ _ | .lwc1 _ _ _ | .ldc1 _ _ _
  | .swc1 _ _ _ | .sdc1 _ _ _ | .fpComputeS _ _ _ _ | .fpComputeD _ _ _ _ | .fpComputeW _ _ _ _
  | .fpComputeL _ _ _ _ => 0xFFFFFFFF#32
  | .lui _ _ | .sll _ _ _ | .srl _ _ _ | .sra _ _ _ | .dsll _ _ _ | .dsrl _ _ _ | .dsra _ _ _ | .dsll32 _ _ _
  | .dsrl32 _ _ _ | .dsra32 _ _ _ => 0xFC1FFFFF#32
  | .mfhi _ | .mflo _ => 0xFC00F83F#32
  | .mthi _ | .mtlo _ | .jr _ => 0xFFE0003F#32
  | .mult _ _ | .multu _ _ | .dmult _ _ | .dmultu _ _ | .div _ _ | .divu _ _ | .ddiv _ _ | .ddivu _ _ => 0xFFFF003F#32
  | .blez _ _ | .bgtz _ _ | .blezl _ _ | .bgtzl _ _ => 0xFFE0FFFF#32
  | .jalr _ _ => 0xFFE0F83F#32
  | .sync _ => 0xFC0007FF#32
  | .mfc0 _ _ | .dmfc0 _ _ | .mtc0 _ _ | .dmtc0 _ _ | .cfc1 _ _ | .ctc1 _ _ | .mfc1 _ _ | .dmfc1 _ _
  | .mtc1 _ _ | .dmtc1 _ _ => 0xFFFFF800#32
  | .tlbwi | .tlbwr | .tlbr | .tlbp | .eret => 0xFE00003F#32
  | .bc1f _ | .bc1t _ | .bc1fl _ | .bc1tl _ => 0xFFE3FFFF#32

end Sys2Proof
end

