-- ==== Sys2Proof/Machine/State.lean ====
section
/-! DEFINITION. The state of the machine as plain data (R20 to R53, R440 to R471), the reasons a step can stop (R28), and the
state after reset (R480 to R484). -/

namespace Sys2Proof.Machine

/-! ## The Fatal reasons -/

/-- The closed list of Fatal reasons (R28), each with the rule that raises it. -/
inductive FatalReason where
  /-- A word that spells no admitted instruction (R166). -/
  | unknownOpcode
  /-- A COP0 move naming a register the core does not have (R365). -/
  | cop0Index
  /-- CFC1 of a register other than 0 or 31, CTC1 of a register other than 31 (R383, R386). -/
  | cop1ControlIndex
  /-- An FP compute, compare or convert instruction (R399). -/
  | fpuArithmetic
  /-- CTC1 making a floating-point exception pending (R386). -/
  | fpuException
  /-- A 64-bit FGR access to an odd register with Status.FR = 0 (R381). -/
  | fr0OddDouble
  /-- A width a window does not support (R123, R124). -/
  | busWidth
  /-- A physical address in no window (R120). -/
  | busUnmapped
  /-- A write to the cartridge (R124). -/
  | romWrite
  /-- An exception while Status.BEV = 1 (R413). -/
  | bev
  /-- DDIV or DDIVU by zero, DDIV of -2^63 by -1 (R276, R277). -/
  | ddivEdge
  /-- An address outside the 32-bit subset while 64-bit addressing is on (R107). -/
  | xaddr
  /-- Two or more TLB entries matching one address (R109, R374). -/
  | tlbMulti
  /-- TLBWI with an illegal PageMask (R371). -/
  | tlbPagemask
  /-- TLBWR (R372). -/
  | tlbwr
  /-- A branch, jump or ERET in the delay slot of a taken branch (R283). -/
  | branchInDelaySlot
  /-- A 64-bit instruction in user or supervisor mode with 64-bit operations disabled (R167). -/
  | mode64Gate
  /-- A user-mode data access with Status.RE = 1 (R116). -/
  | reverseEndian
  /-- A write to PI_RD_LEN (R466). -/
  | piReadDma
  /-- A PI DMA out of range or from an odd address (R466). -/
  | piDmaRange
  /-- A write to PI_WR_LEN while a PI DMA is busy (R466). -/
  | piDmaBusy
  /-- DEV reports a condition it does not model (R126). -/
  | device
  deriving DecidableEq, Repr

/-! ## The parts of the state -/

/-- The stored COP0 registers (R29 to R46). Random is a draw (R31); PRId is a constant (R45). -/
structure Cop0 where
  index    : Word
  entryLo0 : Word
  entryLo1 : Word
  context  : Dword
  pageMask : Word
  wired    : Word
  badVAddr : Dword
  /-- The internal 33-bit counter (R37). -/
  count    : BitVec 33
  entryHi  : Dword
  compare  : Word
  status   : Word
  cause    : Word
  epc      : Dword
  config   : Word
  llAddr   : Word
  watchLo  : Word
  watchHi  : Word
  xContext : Dword
  errorEpc : Dword
  deriving DecidableEq, Repr

/-- One TLB entry (R47). -/
structure TlbEntry where
  valid : Bool
  mask  : Word
  vpn2  : Dword
  asid  : BitVec 8
  g     : Bool
  lo0   : Word
  lo1   : Word
  deriving DecidableEq, Repr

/-- The bytes of RDRAM, SP_DMEM, SP_IMEM and PIF_RAM by physical address (R50), in the canonical form of `Memory.wf`. -/
abbrev Memory := List Host.Cell

/-- The MIPS interface (R440). -/
structure Mi where
  initLen  : BitVec 7
  initMode : Bool
  ebusTest : Bool
  rdramReg : Bool
  /-- MI_INTR: bit 0 SP, 1 SI, 2 AI, 3 VI, 4 PI, 5 DP. -/
  intr     : BitVec 6
  /-- MI_INTR_MASK, same bit order. -/
  mask     : BitVec 6
  deriving DecidableEq, Repr

/-- The video interface (R450): thirteen storage cells and the line counter VI_V_CURRENT reads. -/
structure Vi where
  status : Word
  origin : Word
  width  : Word
  vIntr  : Word
  burst  : Word
  vSync  : Word
  hSync  : Word
  leap   : Word
  hStart : Word
  vStart : Word
  vBurst : Word
  xScale : Word
  yScale : Word
  line   : BitVec 10
  deriving DecidableEq, Repr

/-- The peripheral interface (R466). -/
structure Pi where
  dramAddr : BitVec 24
  cartAddr : Word
  busy     : Bool
  deriving DecidableEq, Repr

/-- SP_STATUS (R471). -/
structure Sp where
  halt     : Bool
  broke    : Bool
  sstep    : Bool
  intbreak : Bool
  sig      : BitVec 8
  deriving DecidableEq, Repr

/-- The two kinds of scheduler event (R461). -/
inductive EventKind where
  | piDmaDone
  | viLine
  deriving DecidableEq, Repr

/-- A scheduler event (R52). -/
structure Event where
  deadline : Nat
  seq      : Nat
  kind     : EventKind
  deriving DecidableEq, Repr

/-- The launch inputs and OPEN parameters a running core uses (R8, R506). No step changes them; they stand in the state
so that a statement about every state holds for every launch (log 4). -/
structure Inputs where
  /-- CART, the cartridge image; CART_LEN is its length. -/
  cart         : List Byte
  /-- RDRAM_BYTES. -/
  rdram        : RdramSize
  /-- VI_LINE_CYCLES. -/
  viLineCycles : Nat
  /-- PI_DMA_CYCLES at the lengths listed. -/
  piDmaTable   : List (Nat × Nat)
  /-- PI_DMA_CYCLES at every other length. -/
  piDmaElse    : Nat
  /-- DEV. -/
  devChoice    : DevChoice
  deriving DecidableEq, Repr

/-- The state of the machine. -/
structure State where
  /-- General registers (R20); read and written through `State.gpr` and `State.setGpr` only. -/
  gprs          : Vector Dword 32
  hi            : Dword
  lo            : Dword
  prevPc        : Dword
  pc            : Dword
  nextPc        : Dword
  delaySlot     : Bool
  prevDelaySlot : Bool
  llbit         : Bool
  /-- The Fatal mark (R28). -/
  fatal         : Option FatalReason
  cop0          : Cop0
  tlb           : Vector TlbEntry 32
  fcr31         : Word
  /-- FP registers (R49), seen through Status.FR (R381). -/
  fgrs          : Vector Dword 32
  mem           : Memory
  mi            : Mi
  vi            : Vi
  pi            : Pi
  sp            : Sp
  /-- The state of DEV (R51). -/
  dev           : DevState
  now           : Nat
  /-- The event queue (R52), least (deadline, seq) first (log 11). -/
  queue         : List Event
  nextSeq       : Nat
  /-- The model's own: how many draws were made (R10, log 3). -/
  draws         : Nat
  /-- The model's own: the launch inputs (log 4). -/
  inputs        : Inputs
  /-- The model's own: the fourteen VI register values of every PRESENT call, newest first (R451, log 8). -/
  frames        : List (Vector Word 14)
  deriving DecidableEq, Repr

/-! ## Outcomes -/

/-- Why the machine stops. -/
inductive Fault where
  /-- `stop Fatal(reason)` (R28), raised wherever a rule says so. `final` is the terminal state, its Fatal mark set, every
  write made before the stop kept (log 9). Safe: the spec gives this state no further step. -/
  | fatal (reason : FatalReason) (final : State)
  /-- The loop of Tick (R460) has no end, so there is no next state: raised by `tick`, only while VI_LINE_CYCLES is 0 (log
  10). Safe: nothing can be claimed of a next state. -/
  | tickDiverges (during : State)
  deriving DecidableEq, Repr

/-- Why an instruction has no meaning. -/
inductive Refusal where
  /-- Raised by exec for an instruction that is not modelled yet. Safe: the machine stops. -/
  | notModelled (mnemonic : String)
  deriving DecidableEq, Repr

/-- The outcome of one instruction or one step. -/
abbrev Out := Host.Outcome State Fault Refusal

/-- The result of a part of an instruction: it goes on with a value, or an exception was taken, which ends the
instruction's own effects (R10), or it stops Fatal (R28). -/
inductive Res (α : Type) where
  | ok (a : α) (s : State)
  | raised (s : State)
  | fatal (r : FatalReason) (s : State)
  deriving Repr

/-- An access kind (R102). -/
inductive Access where
  | fetch | load | store
  deriving DecidableEq, Repr

/-- The width of an access: 1, 2, 4 or 8 bytes (R117). -/
inductive Width where
  | byte | half | word | dword
  deriving DecidableEq, Repr

/-- A privilege mode (R42). -/
inductive Mode where
  | kernel | supervisor | user
  deriving DecidableEq, Repr

/-- The exception kinds (R410), with what `raise` is told about each (R413): the faulting address, the coprocessor. -/
inductive Exc where
  | interrupt
  | tlbModification (va : Dword)
  | tlbMissLoad (va : Dword)
  | tlbInvalidLoad (va : Dword)
  | tlbMissStore (va : Dword)
  | tlbInvalidStore (va : Dword)
  | addressErrorLoad (va : Dword)
  | addressErrorStore (va : Dword)
  | syscall
  | breakpoint
  | copUnusable (ce : BitVec 2)
  | trap
  deriving DecidableEq, Repr

/-- What Translate answers (R103): a physical address, a fault, or a Fatal stop. -/
inductive Xlate where
  | pa (a : Word)
  | fault (k : Exc)
  | fatal (r : FatalReason)
  deriving DecidableEq, Repr

/-! ## Reset -/

/-- COP0 after reset (R480 step 2). Status, Cause.IP, Wired and Config are the spec's; every other value is the spec's
simulator 0, DESIGN CHOICE, unsafe (log 1). -/
def Cop0.reset : Cop0 where
  index := 0; entryLo0 := 0; entryLo1 := 0; context := 0; pageMask := 0; wired := 0; badVAddr := 0; count := 0
  entryHi := 0; compare := 0; status := 0x34000000#32; cause := 0; epc := 0; config := Config.configReset
  llAddr := 0; watchLo := 0; watchHi := 0; xContext := 0; errorEpc := 0

/-- A TLB entry after reset (R47). -/
def TlbEntry.reset : TlbEntry where
  valid := false; mask := 0; vpn2 := 0; asid := 0; g := false; lo0 := 0; lo1 := 0

/-- The launch inputs of `State.reset`: no cartridge, 8 MiB (the default of R8), the spec's simulator DEV, and delays of
the model's own, DESIGN CHOICE, unsafe (log 4). -/
def Inputs.reset : Inputs where
  cart := []; rdram := .mib8; viLineCycles := 2976; piDmaTable := []; piDmaElse := 6; devChoice := .simulatorDefault

/-- The machine right after reset and the HLE boot (R480 to R484), for CIC 6102/7101 and the launch inputs above. -/
def State.reset : State where
  gprs := #v[0, 0x1, 0x0EBDA536, 0x0EBDA536, 0, 0, 0xFFFFFFFFA4001F0C, 0xFFFFFFFFA4001F08,
    0xC0, 0, 0x40, 0xFFFFFFFFA4000040, 0xFFFFFFFFED10D0B3, 0x1402A4CC, 0, 0x3103E121,
    0, 0, 0, 0, 0x1, 0, 0x3F, 0, 0, 0xFFFFFFFF9DEBB54F, 0, 0, 0, 0xFFFFFFFFA4001FF0, 0, 0xFFFFFFFFA4001550]
  hi := 0
  lo := 0
  prevPc := 0
  pc := 0xFFFFFFFFA4000040#64
  nextPc := 0xFFFFFFFFA4000044#64
  delaySlot := false
  prevDelaySlot := false
  llbit := false
  fatal := none
  cop0 := Cop0.reset
  tlb := Vector.replicate 32 TlbEntry.reset
  fcr31 := 0
  fgrs := Vector.replicate 32 0
  mem := []
  mi := { initLen := 0, initMode := false, ebusTest := false, rdramReg := false, intr := 0, mask := 0 }
  vi := { status := 0, origin := 0, width := 0, vIntr := 0, burst := 0, vSync := 0, hSync := 0, leap := 0, hStart := 0,
          vStart := 0, vBurst := 0, xScale := 0, yScale := 0, line := 0 }
  pi := { dramAddr := 0, cartAddr := 0, busy := false }
  sp := { halt := true, broke := false, sstep := false, intbreak := false, sig := 0 }
  dev := []
  now := 0
  queue := [{ deadline := 2976, seq := 0, kind := .viLine }]
  nextSeq := 1
  draws := 0
  inputs := Inputs.reset
  frames := []

end Sys2Proof.Machine
end

