-- ==== Sys2Proof/Machine/Flags.lean ====
section
/-! DEFINITION. Status, Cause and FCR31 as fields: each register has one raw store and every field is a view of it (R41). MIPS has
no condition flags (R12); the only flag an instruction tests is FCR31.C (R48). -/

namespace Sys2Proof.Machine

/-- A write through a mask (R30): bits of the mask come from `v`, the others keep the old value. -/
def maskWrite {n : Nat} (mask old v : BitVec n) : BitVec n := (old &&& ~~~mask) ||| (v &&& mask)

/-- Write one bit. -/
def writeBit {n : Nat} (x : BitVec n) (k : Nat) (b : Bool) : BitVec n :=
  if b then x ||| BitVec.twoPow n k else x &&& ~~~BitVec.twoPow n k

/-! ## Status (R40) -/

def State.ie (s : State) : Bool := s.cop0.status.getLsbD 0
def State.exl (s : State) : Bool := s.cop0.status.getLsbD 1
def State.erl (s : State) : Bool := s.cop0.status.getLsbD 2
def State.ksu (s : State) : BitVec 2 := s.cop0.status.extractLsb' 3 2
def State.ux (s : State) : Bool := s.cop0.status.getLsbD 5
def State.sx (s : State) : Bool := s.cop0.status.getLsbD 6
def State.kx (s : State) : Bool := s.cop0.status.getLsbD 7
def State.im (s : State) : BitVec 8 := s.cop0.status.extractLsb' 8 8
def State.bev (s : State) : Bool := s.cop0.status.getLsbD 22
def State.re (s : State) : Bool := s.cop0.status.getLsbD 25
def State.fr (s : State) : Bool := s.cop0.status.getLsbD 26
def State.cu0 (s : State) : Bool := s.cop0.status.getLsbD 28
def State.cu1 (s : State) : Bool := s.cop0.status.getLsbD 29

/-- The current mode (R42): kernel while ERL or EXL is set or KSU is 00; KSU = 11 is user. -/
def State.mode (s : State) : Mode :=
  if s.erl || s.exl || s.ksu == 0#2 then .kernel
  else if s.ksu == 1#2 then .supervisor
  else .user

/-- The 64-bit addressing flag of the current mode (R42). -/
def State.ext (s : State) : Bool :=
  match s.mode with
  | .kernel => s.kx
  | .supervisor => s.sx
  | .user => s.ux

/-- 64-bit instructions are gated (R167): user mode with UX = 0, or supervisor mode with SX = 0. -/
def State.gated64 (s : State) : Bool :=
  match s.mode with
  | .kernel => false
  | .supervisor => !s.sx
  | .user => !s.ux

/-- COP0 instructions and CACHE are usable (R360): kernel mode, or CU0 = 1. -/
def State.cop0Usable (s : State) : Bool := s.mode == .kernel || s.cu0

/-! ## Cause (R43) -/

def State.ip (s : State) : BitVec 8 := s.cop0.cause.extractLsb' 8 8
def State.bd (s : State) : Bool := s.cop0.cause.getLsbD 31
def State.excCode (s : State) : BitVec 5 := s.cop0.cause.extractLsb' 2 5
def State.ce (s : State) : BitVec 2 := s.cop0.cause.extractLsb' 28 2

/-- Cause with ExcCode and CE written (R413). -/
def causeWithCode (code : BitVec 5) (ce : BitVec 2) (cause : Word) : Word :=
  maskWrite 0x3000007C#32 cause ((code.setWidth 32 <<< 2) ||| (ce.setWidth 32 <<< 28))

/-- An interrupt is pending and enabled (R430). -/
def State.interruptPending (s : State) : Bool := (s.ip &&& s.im) != 0#8 && s.ie && !s.exl && !s.erl

/-! ## FCR31 (R48) -/

/-- The condition bit C of FCR31, which the BC1 branches test. -/
def State.fpCond (s : State) : Bool := s.fcr31.getLsbD 23

/-- A value of FCR31 makes an FP exception pending (R386): the E bit, or a Cause bit together with its Enable bit. -/
def fcsrPending (v : Word) : Bool := v.getLsbD 17 || (v.extractLsb' 12 5 &&& v.extractLsb' 7 5) != 0#5

end Sys2Proof.Machine
end

