-- ==== Sys2Proof/Machine/Ops.lean ====
section
/-! DEFINITION. The shared operations: sequencing, registers, the byte memory, draws, the interrupt recompute, the event queue,
taking an exception (R413) and returning from one (R376). -/

namespace Sys2Proof.Machine

/-! ## Sequencing -/

/-- `stop Fatal(r)` (R28): the terminal state keeps every write made before, and carries the mark. -/
def stopFatal (r : FatalReason) (s : State) : Out := .fault (.fatal r { s with fatal := some r })

/-- Go on with the value; an exception or a stop ends the instruction (R10). -/
def Res.bind {α β : Type} (m : Res α) (f : α → State → Res β) : Res β :=
  match m with
  | .ok a s => f a s
  | .raised s => .raised s
  | .fatal r s => .fatal r s

/-- The outcome of an instruction: an exception that was taken is a next state. -/
def Res.outcome {α : Type} (m : Res α) : Out :=
  match m with
  | .ok _ s => .next s
  | .raised s => .next s
  | .fatal r s => stopFatal r s

/-- The instruction is complete in state `s`. -/
def done (s : State) : Res Unit := .ok () s

/-! ## General registers (R20, R21) -/

/-- `gpr[r]`: register 0 reads zero. -/
def State.gpr (s : State) (r : Reg) : Dword := if r = 0#5 then 0#64 else s.gprs[r.toNat]'(r.isLt)

/-- `gpr[r] <- v`: a write to register 0 is discarded. -/
def State.setGpr (s : State) (r : Reg) (v : Dword) : State :=
  if r = 0#5 then s else { s with gprs := s.gprs.set r.toNat v r.isLt }

/-! ## FP registers, raw (R49) -/

def State.fgr (s : State) (r : Reg) : Dword := s.fgrs[r.toNat]'(r.isLt)

def State.setFgr (s : State) (r : Reg) (v : Dword) : State := { s with fgrs := s.fgrs.set r.toNat v r.isLt }

/-! ## Cells: sparse storage in one canonical form -/

/-- The value at key `a`; an unlisted key reads as `dflt`. -/
def cellsRead {n : Nat} (dflt : BitVec n) : List (Nat × BitVec n) → Nat → BitVec n
  | [], _ => dflt
  | (k, b) :: m, a => if a < k then dflt else if a = k then b else cellsRead dflt m a

/-- Write `b` at key `a`: keys stay rising, and no entry equals the default. -/
def cellsWrite {n : Nat} (dflt : BitVec n) : List (Nat × BitVec n) → Nat → BitVec n → List (Nat × BitVec n)
  | [], a, b => if b = dflt then [] else [(a, b)]
  | (k, c) :: m, a, b =>
    if a < k then (if b = dflt then (k, c) :: m else (a, b) :: (k, c) :: m)
    else if a = k then (if b = dflt then m else (a, b) :: m)
    else (k, c) :: cellsWrite dflt m a b

/-- Canonical from key `lo` on: keys at least `lo` and strictly rising, no entry equal to the default. -/
def cellsWf {n : Nat} (dflt : BitVec n) : Nat → List (Nat × BitVec n) → Bool
  | _, [] => true
  | lo, (k, b) :: m => decide (lo ≤ k) && b != dflt && cellsWf dflt (k + 1) m

/-! ## The byte memory (R117, R121) -/

/-- The canonical form of the memory. -/
def Memory.wf (m : Memory) : Bool := cellsWf Config.unwrittenByte 0 m

def Memory.read (m : Memory) (a : Nat) : Byte := cellsRead Config.unwrittenByte m a

def Memory.write (m : Memory) (a : Nat) (b : Byte) : Memory := cellsWrite Config.unwrittenByte m a b

/-- The big-endian value of the `n` bytes from `a` (R117). -/
def Memory.readBE (m : Memory) (a : Nat) : Nat → Dword
  | 0 => 0#64
  | n + 1 => (Memory.readBE m a n <<< 8) ||| (m.read (a + n)).setWidth 64

/-- Store the low `n` bytes of `v` from `a` on, the most significant first (R117). -/
def Memory.writeBE (m : Memory) (a : Nat) : Nat → Dword → Memory
  | 0, _ => m
  | n + 1, v => (Memory.writeBE m a n (v >>> 8)).write (a + n) (v.setWidth 8)

/-! ## Draws (R10) -/

/-- A draw: a free value, and the state with the draw counter advanced (log 3). -/
def State.draw (s : State) : Dword × State := (Config.draw s.draws, { s with draws := s.draws + 1 })

/-! ## The MI interrupt line (R433) -/

/-- Recompute: Cause.IP2 is 1 exactly when a pending MI interrupt is unmasked. -/
def recompute (s : State) : State :=
  { s with cop0 := { s.cop0 with cause := writeBit s.cop0.cause 10 ((s.mi.intr &&& s.mi.mask) != 0#6) } }

/-- Set or clear bit `k` of MI_INTR, then Recompute (R445). -/
def setMiIntr (k : Nat) (b : Bool) (s : State) : State :=
  recompute { s with mi := { s.mi with intr := writeBit s.mi.intr k b } }

/-! ## The event queue (R462) -/

/-- `e` runs before `x` (R460, R463). -/
def Event.before (e x : Event) : Bool := e.deadline < x.deadline || (e.deadline == x.deadline && e.seq < x.seq)

/-- Insert an event in (deadline, seq) order. -/
def enqueue (e : Event) : List Event → List Event
  | [] => [e]
  | x :: q => if e.before x then e :: x :: q else x :: enqueue e q

/-- `set_timer(delay, kind)` (R462). -/
def setTimer (delay : Nat) (kind : EventKind) (s : State) : State :=
  { s with queue := enqueue { deadline := s.now + delay, seq := s.nextSeq, kind := kind } s.queue
           nextSeq := s.nextSeq + 1 }

/-! ## Taking an exception (R410 to R417) -/

/-- Cause.ExcCode of each kind (R410). -/
def Exc.code : Exc → BitVec 5
  | .interrupt => 0#5
  | .tlbModification _ => 1#5
  | .tlbMissLoad _ | .tlbInvalidLoad _ => 2#5
  | .tlbMissStore _ | .tlbInvalidStore _ => 3#5
  | .addressErrorLoad _ => 4#5
  | .addressErrorStore _ => 5#5
  | .syscall => 8#5
  | .breakpoint => 9#5
  | .copUnusable _ => 11#5
  | .trap => 13#5

/-- Cause.CE: the coprocessor of COP_UNUSABLE, 0 for every other kind (R413). -/
def Exc.ceField : Exc → BitVec 2
  | .copUnusable ce => ce
  | _ => 0#2

/-- The kinds that use the refill vectors (R415). -/
def Exc.isMiss : Exc → Bool
  | .tlbMissLoad _ | .tlbMissStore _ => true
  | _ => false

/-- The address of the handler (R415), from the level and the addressing flag before entry. -/
def vector (k : Exc) (exl0 ext0 : Bool) : Dword :=
  if k.isMiss && !exl0 then (if ext0 then 0xFFFFFFFF80000080#64 else 0xFFFFFFFF80000000#64)
  else 0xFFFFFFFF80000180#64

/-- The registers that record a faulting page (R416): BadVAddr, Context, XContext, EntryHi with its ASID kept. -/
def recordPage (va : Dword) (c : Cop0) : Cop0 :=
  { c with
    badVAddr := va
    context := maskWrite 0x00000000007FFFF0#64 c.context ((va.extractLsb' 13 19).setWidth 64 <<< 4)
    xContext := maskWrite 0x00000001FFFFFFF0#64 c.xContext
      (((va.extractLsb' 62 2).setWidth 64 <<< 31) ||| ((va.extractLsb' 13 27).setWidth 64 <<< 4))
    entryHi := (va &&& 0xC00000FFFFFFE000#64) ||| (c.entryHi &&& 0xFF#64) }

/-- The side effects of an exception on the address registers (R416). -/
def recordAddress (k : Exc) (c : Cop0) : Cop0 :=
  match k with
  | .addressErrorLoad va | .addressErrorStore va => { c with badVAddr := va }
  | .tlbModification va | .tlbMissLoad va | .tlbInvalidLoad va | .tlbMissStore va | .tlbInvalidStore va => recordPage va c
  | .interrupt | .syscall | .breakpoint | .copUnusable _ | .trap => c

/-- Save the resume point (R413, R414), only when EXL is 0: EPC and Cause.BD, and EXL set. -/
def saveResume (saved : Dword) (inSlot : Bool) (c : Cop0) : Cop0 :=
  { c with
    epc := if inSlot then saved - 4#64 else saved
    cause := writeBit c.cause 31 inSlot
    status := c.status ||| 2#32 }

/-- An immediate redirect (R10): `pc <- target; next_pc <- target + 4`. -/
def State.redirect (s : State) (target : Dword) : State := { s with pc := target, nextPc := target + 4#64 }

/-- The state after entering an exception with Status.BEV = 0 (R413). -/
def enterException (k : Exc) (usePrev : Bool) (s : State) : State :=
  let saved := if usePrev then s.prevPc else s.pc
  let c1 := if s.exl then s.cop0 else saveResume saved s.prevDelaySlot s.cop0
  let c2 := { c1 with cause := causeWithCode k.code k.ceField c1.cause }
  { s with cop0 := recordAddress k c2, delaySlot := false, prevDelaySlot := false }.redirect (vector k s.exl s.ext)

/-- `raise K(info)` (R413): Fatal(BEV) with nothing written while Status.BEV is 1, else the exception is taken. -/
def raise {α : Type} (k : Exc) (usePrev : Bool) (s : State) : Res α :=
  if s.bev then .fatal .bev s else .raised (enterException k usePrev s)

/-- Return from an exception (R376): to ErrorEPC clearing ERL, or to EPC clearing EXL; the reservation is lost. -/
def returnFromException (s : State) : State :=
  if s.erl then
    { s with cop0 := { s.cop0 with status := s.cop0.status &&& ~~~4#32 }, llbit := false }.redirect s.cop0.errorEpc
  else
    { s with cop0 := { s.cop0 with status := s.cop0.status &&& ~~~2#32 }, llbit := false }.redirect s.cop0.epc

/-! ## The checks an instruction makes first (R412) -/

/-- The 64-bit gate (R167). -/
def needs64 {α : Type} (s : State) (k : Res α) : Res α := if s.gated64 then .fatal .mode64Gate s else k

/-- COP0 usability (R360). -/
def needsCop0 {α : Type} (s : State) (k : Res α) : Res α := if s.cop0Usable then k else raise (.copUnusable 0#2) true s

/-- COP1 usability (R380). -/
def needsCop1 {α : Type} (s : State) (k : Res α) : Res α := if s.cu1 then k else raise (.copUnusable 1#2) true s

/-- A branch, jump or ERET may not stand in the delay slot of a taken branch (R283). -/
def needsNoSlot {α : Type} (s : State) (k : Res α) : Res α := if s.prevDelaySlot then .fatal .branchInDelaySlot s else k

end Sys2Proof.Machine
end

