-- ==== Sys2Proof/Machine/Operands.lean ====
section
/-! DEFINITION. Operand forms (R163): words of registers, extended immediates, shift amounts, addresses and targets. -/

namespace Sys2Proof.Machine

/-- Bits 31:0 of a register value: all a word operation reads (R23, R200). -/
def lo32 (v : Dword) : Word := v.setWidth 32

/-- A word result as a register holds it: sign-extended from bit 31 (R23). -/
def sext32 (v : Word) : Dword := v.signExtend 64

/-- A word zero-extended to 64 bits. -/
def zext32 (v : Word) : Dword := v.setWidth 64

/-- `sext_16(imm)` (R163). -/
def simm (i : Imm) : Dword := i.signExtend 64

/-- `zext_16(imm)` (R163). -/
def zimm (i : Imm) : Dword := i.setWidth 64

/-- `sext_32(imm << 16)`, the value of LUI (R163, R226). -/
def upperImm (i : Imm) : Dword := sext32 (i ++ 0#16)

/-- The result of a comparison: 1 or 0 (R215). -/
def truth (b : Bool) : Dword := if b then 1#64 else 0#64

/-- The low 5 bits of a register: a variable word shift amount (R163). -/
def amount5 (v : Dword) : Nat := (v.setWidth 5).toNat

/-- The low 6 bits of a register: a variable doubleword shift amount (R163). -/
def amount6 (v : Dword) : Nat := (v.setWidth 6).toNat

/-- The effective address of a load or store (R310). -/
def effAddr (s : State) (base : Reg) (offset : Imm) : Dword := s.gpr base + simm offset

/-- The target of a branch (R281): the delay slot's address plus four times the displacement. -/
def branchTarget (s : State) (offset : Imm) : Dword := s.pc + simm offset * 4#64

/-- The target of a jump (R282): the region of the delay slot, the index in the low 28 bits. -/
def jumpTarget (s : State) (index : BitVec 26) : Dword :=
  (s.pc &&& 0xFFFFFFFFF0000000#64) ||| (index ++ 0#2).setWidth 64

/-- The number of bytes of an access. -/
def Width.bytes : Width → Nat
  | .byte => 1
  | .half => 2
  | .word => 4
  | .dword => 8

end Sys2Proof.Machine
end

