-- ==== Sys2Proof/Machine/AddressMap.lean ====
section
/-! DEFINITION. The physical address map (R118, R119): the windows, in the priority order of the spec's table. -/

namespace Sys2Proof.Machine

/-- RDRAM_BYTES (R118). -/
def rdramBytes : RdramSize → Nat
  | .mib4 => 0x00400000
  | .mib8 => 0x00800000

/-- The windows with their first and last addresses (R118). -/
def windowTable (r : RdramSize) : List (Window × Nat × Nat) := [
  (.rdram,    0x00000000, rdramBytes r - 1),
  (.spDmem,   0x04000000, 0x04000FFF),
  (.spImem,   0x04001000, 0x04001FFF),
  (.spRegs,   0x04040000, 0x0404001F),
  (.spPcRegs, 0x04080000, 0x04080007),
  (.mi,       0x04300000, 0x0430000F),
  (.vi,       0x04400000, 0x04400037),
  (.ai,       0x04500000, 0x04500017),
  (.pi,       0x04600000, 0x04600033),
  (.ri,       0x04700000, 0x0470001F),
  (.si,       0x04800000, 0x0480001B),
  (.cart,     0x10000000, 0x1FBFFFFF),
  (.pifRam,   0x1FC007C0, 0x1FC007FF)]

/-- The window that claims a physical address, with its first address; `none` is unmapped (R119, R120). -/
def windowOf (r : RdramSize) (a : Nat) : Option (Window × Nat) :=
  ((windowTable r).find? fun w => w.2.1 ≤ a && a ≤ w.2.2).map fun w => (w.1, w.2.1)

/-- The byte-array windows (R121). -/
def isByteWindow : Window → Bool
  | .rdram | .spDmem | .spImem | .pifRam => true
  | _ => false

/-- A physical address lies in a byte-array window. -/
def inByteArray (r : RdramSize) (a : Nat) : Bool :=
  match windowOf r a with
  | some (w, _) => isByteWindow w
  | none => false

end Sys2Proof.Machine
end

