-- ==== Sys2Proof/Machine/Devices.lean ====
section
/-! DEFINITION. The register windows (R440 to R473): MI, VI, PI and SP_STATUS as the spec gives them, every other register
through the external function DEV (R126, R472). Every access is one 4-byte access (R123). -/

namespace Sys2Proof.Machine

/-! ## Cartridge bytes -/

/-- `CartByte(o)` (R124, R466): a byte of the image, or a draw at or beyond CART_LEN. -/
def cartByte (o : Nat) (s : State) : Byte × State :=
  match s.inputs.cart[o]? with
  | some b => (b, s)
  | none => (s.draw.1.setWidth 8, s.draw.2)

/-- The big-endian value of `n` cartridge bytes from offset `o` (R124). -/
def cartRead (o : Nat) : Nat → State → Dword × State
  | 0, s => (0#64, s)
  | n + 1, s =>
    let (hi, s1) := cartRead o n s
    let (b, s2) := cartByte (o + n) s1
    ((hi <<< 8) ||| b.setWidth 64, s2)

/-! ## Clear and set pairs -/

/-- One bit under a clear/set pair (R471): both bits or neither leave it unchanged. -/
def pairBit (v : Word) (clr set : Nat) (x : Bool) : Bool :=
  if v.getLsbD clr && !v.getLsbD set then false
  else if v.getLsbD set && !v.getLsbD clr then true
  else x

/-! ## MI (R440 to R445) -/

def miModeRead (m : Mi) : Word :=
  (BitVec.ofBool m.rdramReg ++ BitVec.ofBool m.ebusTest ++ BitVec.ofBool m.initMode ++ m.initLen).setWidth 32

/-- A write of MI_MODE (R441). -/
def miModeWrite (v : Word) (s : State) : State :=
  let m : Mi := { s.mi with
    initLen := v.setWidth 7
    initMode := pairBit v 7 8 s.mi.initMode
    ebusTest := pairBit v 9 10 s.mi.ebusTest
    rdramReg := pairBit v 12 13 s.mi.rdramReg }
  if v.getLsbD 11 then setMiIntr 5 false { s with mi := m } else { s with mi := m }

/-- MI_INTR_MASK after a write: bit `2k` clears mask bit `k`, bit `2k + 1` sets it (R444). -/
def miMaskAfter (v : Word) (mask : BitVec 6) : BitVec 6 :=
  [0, 1, 2, 3, 4, 5].foldl (fun m k => writeBit m k (pairBit v (2 * k) (2 * k + 1) (m.getLsbD k))) mask

def miMaskWrite (v : Word) (s : State) : State :=
  recompute { s with mi := { s.mi with mask := miMaskAfter v s.mi.mask } }

/-! ## VI (R450 to R452) -/

/-- The fourteen VI registers as a read returns them, by register number (offset / 4) (R450). -/
def viValues (v : Vi) : Vector Word 14 :=
  #v[v.status, v.origin, v.width, v.vIntr, v.line.setWidth 32, v.burst, v.vSync, v.hSync, v.leap, v.hStart, v.vStart,
     v.vBurst, v.xScale, v.yScale]

/-- A write of a VI register (R450, R452): VI_V_CURRENT clears the VI interrupt, every other register stores. -/
def viWrite (off : Nat) (x : Word) (s : State) : State :=
  match off with
  | 0x00 => { s with vi := { s.vi with status := x } }
  | 0x04 => { s with vi := { s.vi with origin := x } }
  | 0x08 => { s with vi := { s.vi with width := x } }
  | 0x0C => { s with vi := { s.vi with vIntr := x } }
  | 0x10 => setMiIntr 3 false s
  | 0x14 => { s with vi := { s.vi with burst := x } }
  | 0x18 => { s with vi := { s.vi with vSync := x } }
  | 0x1C => { s with vi := { s.vi with hSync := x } }
  | 0x20 => { s with vi := { s.vi with leap := x } }
  | 0x24 => { s with vi := { s.vi with hStart := x } }
  | 0x28 => { s with vi := { s.vi with vStart := x } }
  | 0x2C => { s with vi := { s.vi with vBurst := x } }
  | 0x30 => { s with vi := { s.vi with xScale := x } }
  | 0x34 => { s with vi := { s.vi with yScale := x } }
  | _ => s

/-- The VI line event (R451). `vi_line` is a 10-bit counter and wraps (R9, log 12). -/
def viLineEvent (s : State) : State :=
  let line := s.vi.line + 1#10
  let fieldEnd := decide (s.vi.vSync.setWidth 10 ≤ line)
  let vi := { s.vi with line := if fieldEnd then 0#10 else line }
  let s1 := { s with vi := vi, frames := if fieldEnd then viValues vi :: s.frames else s.frames }
  let s2 := if vi.line = s.vi.vIntr.setWidth 10 then setMiIntr 3 true s1 else recompute s1
  setTimer s.inputs.viLineCycles .viLine s2

/-! ## PI (R466 to R468) -/

/-- `PI_DMA_CYCLES(len)`, an OPEN launch parameter. -/
def piDmaCycles (i : Inputs) (len : Nat) : Nat :=
  match i.piDmaTable.find? fun p => p.1 == len with
  | some p => p.2
  | none => i.piDmaElse

/-- The copy of a PI DMA: `n` bytes, the next from cartridge offset `o` to RDRAM address `d` (R466). -/
def piCopy : Nat → Nat → Nat → State → State
  | 0, _, _, s => s
  | n + 1, d, o, s =>
    let (b, s1) := cartByte o s
    piCopy n (d + 1) (o + 1) { s1 with mem := s1.mem.write d b }

/-- The transfer (R466): the copy, busy, the completion event, and the address registers left unspecified, two draws. -/
def piTransfer (len d c : Nat) (s : State) : State :=
  let s1 := piCopy len d (c - 0x10000000) s
  let s2 := setTimer (piDmaCycles s.inputs len) .piDmaDone { s1 with pi := { s1.pi with busy := true } }
  { s2 with
    pi := { s2.pi with dramAddr := (Config.draw s2.draws).setWidth 24, cartAddr := (Config.draw (s2.draws + 1)).setWidth 32 }
    draws := s2.draws + 2 }

/-- The checks of a transfer of `len` bytes from cartridge address `c` to RDRAM address `d` (R466). -/
def piDma (len d c : Nat) (s : State) : Res Unit :=
  if d % 2 = 1 ∨ c % 2 = 1 then .fatal .piDmaRange s
  else if rdramBytes s.inputs.rdram < d + len ∨ c < 0x10000000 ∨ 0x1FC00000 < c + len then .fatal .piDmaRange s
  else done (piTransfer len d c s)

/-- A write to PI_WR_LEN: the cartridge-to-RDRAM DMA (R466). The length is a natural number (log 15). -/
def piStartDma (v : Word) (s : State) : Res Unit :=
  if s.pi.busy then .fatal .piDmaBusy s
  else piDma ((v.setWidth 24).toNat + 1) s.pi.dramAddr.toNat s.pi.cartAddr.toNat s

/-- The completion event of a PI DMA (R467). -/
def piDmaDoneEvent (s : State) : State := setMiIntr 4 true { s with pi := { s.pi with busy := false } }

/-- A read of PI_STATUS (R468). -/
def piStatusRead (s : State) : Word := (BitVec.ofBool (s.mi.intr.getLsbD 4) ++ 0#2 ++ BitVec.ofBool s.pi.busy).setWidth 32

/-! ## SP_STATUS (R471) -/

def spStatusRead (p : Sp) : Word :=
  (p.sig ++ BitVec.ofBool p.intbreak ++ BitVec.ofBool p.sstep ++ 0#3 ++ BitVec.ofBool p.broke ++ BitVec.ofBool p.halt).setWidth 32

/-- The signal bits after a write: pair `9 + 2k`, `10 + 2k` for signal `k`. -/
def spSigAfter (v : Word) (sig : BitVec 8) : BitVec 8 :=
  [0, 1, 2, 3, 4, 5, 6, 7].foldl (fun m k => writeBit m k (pairBit v (9 + 2 * k) (10 + 2 * k) (m.getLsbD k))) sig

def spStatusWrite (v : Word) (s : State) : State :=
  let p : Sp := {
    halt := pairBit v 0 1 s.sp.halt
    broke := if v.getLsbD 2 then false else s.sp.broke
    sstep := pairBit v 5 6 s.sp.sstep
    intbreak := pairBit v 7 8 s.sp.intbreak
    sig := spSigAfter v s.sp.sig }
  setMiIntr 0 (pairBit v 3 4 (s.mi.intr.getLsbD 0)) { s with sp := p }

/-! ## DEV (R126, R472) -/

/-- The spec's simulator default: a 32-bit storage cell at each register, by its physical address, no effect. -/
def storageDev (addr : Nat) (op : DevOp) (d : DevState) : DevAnswer :=
  match op with
  | .read => { result := cellsRead 0#32 d addr, state := d, fatal := false, memWrites := [], siIntr := none, aiIntr := none,
               dpIntr := false }
  | .write v => { result := 0#32, state := cellsWrite 0#32 d addr v, fatal := false, memWrites := [], siIntr := none,
                  aiIntr := none, dpIntr := false }

/-- The memory a DEV call may write (R472): SP DMA through SP_RD_LEN and SP_WR_LEN, SI DMA through SI registers. -/
def devMayWrite (win : Window) (off : Nat) (target : Option (Window × Nat)) : Bool :=
  match win, target with
  | .spRegs, some (w, _) => (off == 0x08 || off == 0x0C) && (w == .rdram || w == .spDmem || w == .spImem)
  | .si, some (w, _) => w == .rdram || w == .pifRam
  | _, _ => false

/-- The byte writes of a DEV call, those R472 does not allow left out. -/
def devWrites (win : Window) (off : Nat) (r : RdramSize) : List (Nat × Byte) → Memory → Memory
  | [], m => m
  | (a, b) :: ws, m => devWrites win off r ws (if devMayWrite win off (windowOf r a) then m.write a b else m)

/-- MI_INTR after a DEV call (R472): SI and AI set or clear their own bit, any window may set DP. -/
def devIntr (win : Window) (ans : DevAnswer) (intr : BitVec 6) : BitVec 6 :=
  let i1 := if win = .si then (match ans.siIntr with | some b => writeBit intr 1 b | none => intr) else intr
  let i2 := if win = .ai then (match ans.aiIntr with | some b => writeBit i1 2 b | none => i1) else i1
  if ans.dpIntr then writeBit i2 5 true else i2

/-- The effects of a DEV call, then Recompute (R433, R472). -/
def applyDev (win : Window) (off : Nat) (ans : DevAnswer) (s : State) : State :=
  recompute { s with
    dev := ans.state
    mem := devWrites win off s.inputs.rdram ans.memWrites s.mem
    mi := { s.mi with intr := devIntr win ans s.mi.intr } }

/-- The answer of the DEV function the host supplied (log 6). -/
def devAnswer (win : Window) (base off : Nat) (op : DevOp) (s : State) : DevAnswer :=
  match s.inputs.devChoice with
  | .simulatorDefault => storageDev (base + off) op s.dev
  | .external => Config.dev win off op s.dev

/-- A call of DEV (R126). -/
def devCall (win : Window) (base off : Nat) (op : DevOp) (s : State) : Res Word :=
  let ans := devAnswer win base off op s
  if ans.fatal then .fatal .device s else .ok ans.result (applyDev win off ans s)

/-! ## Register access by window and offset (R473) -/

/-- A 4-byte read of the register at `off` in window `win`, whose first address is `base`. -/
def deviceRead (win : Window) (base off : Nat) (s : State) : Res Word :=
  match win with
  | .mi =>
    match off with
    | 0x00 => .ok (miModeRead s.mi) s
    | 0x04 => .ok Config.miVersion s
    | 0x08 => .ok (s.mi.intr.setWidth 32) s
    | 0x0C => .ok (s.mi.mask.setWidth 32) s
    | _ => devCall win base off .read s
  | .vi =>
    match (viValues s.vi)[off / 4]? with
    | some v => .ok v s
    | none => devCall win base off .read s
  | .pi =>
    match off with
    | 0x00 => .ok (s.pi.dramAddr.setWidth 32) s
    | 0x04 => .ok s.pi.cartAddr s
    | 0x08 => .ok (s.draw.1.setWidth 32) s.draw.2
    | 0x0C => .ok (s.draw.1.setWidth 32) s.draw.2
    | 0x10 => .ok (piStatusRead s) s
    | _ => devCall win base off .read s
  | .spRegs => if off = 0x10 then .ok (spStatusRead s.sp) s else devCall win base off .read s
  | _ => devCall win base off .read s

/-- A call of DEV whose result is not used. -/
def devStore (win : Window) (base off : Nat) (v : Word) (s : State) : Res Unit :=
  (devCall win base off (.write v) s).bind fun _ t => done t

/-- A 4-byte write of the register at `off` in window `win`. -/
def deviceWrite (win : Window) (base off : Nat) (v : Word) (s : State) : Res Unit :=
  match win with
  | .mi =>
    match off with
    | 0x00 => done (miModeWrite v s)
    | 0x04 => done s
    | 0x08 => done s
    | 0x0C => done (miMaskWrite v s)
    | _ => devStore win base off v s
  | .vi => if off ≤ 0x34 then done (viWrite off v s) else devStore win base off v s
  | .pi =>
    match off with
    | 0x00 => done { s with pi := { s.pi with dramAddr := v.setWidth 24 } }
    | 0x04 => done { s with pi := { s.pi with cartAddr := v } }
    | 0x08 => .fatal .piReadDma s
    | 0x0C => piStartDma v s
    | 0x10 => done (if v.getLsbD 1 then setMiIntr 4 false s else s)
    | _ => devStore win base off v s
  | .spRegs => if off = 0x10 then done (spStatusWrite v s) else devStore win base off v s
  | _ => devStore win base off v s

end Sys2Proof.Machine
end

