-- ==== Sys2Proof/Machine/Mmu.lean ====
section
/-! DEFINITION. Address translation (R100 to R114): alignment, the 32-bit subset, segments and modes, and the TLB. A translation
has no effect on any state (R113). -/

namespace Sys2Proof.Machine

/-- The address error of an access kind (R103). -/
def addressError (acc : Access) (va : Dword) : Exc :=
  match acc with
  | .fetch | .load => .addressErrorLoad va
  | .store => .addressErrorStore va

/-- The TLB miss of an access kind (R108). -/
def tlbMiss (acc : Access) (va : Dword) : Exc :=
  match acc with
  | .fetch | .load => .tlbMissLoad va
  | .store => .tlbMissStore va

/-- The TLB invalid fault of an access kind (R108). -/
def tlbInvalid (acc : Access) (va : Dword) : Exc :=
  match acc with
  | .fetch | .load => .tlbInvalidLoad va
  | .store => .tlbInvalidStore va

/-- An entry matches an address (R108): valid, equal page numbers under the entry's mask, global or of this ASID. -/
def TlbEntry.covers (e : TlbEntry) (a : Word) (asid : BitVec 8) : Bool :=
  let page := ~~~(e.mask ||| 0x1FFF#32)
  e.valid && (a &&& page) == (lo32 e.vpn2 &&& page) && (e.g || e.asid == asid)

/-- The matching entries with their slots (R108), for the address-space id in EntryHi. -/
def tlbHits (s : State) (a : Word) : List (TlbEntry × Nat) :=
  s.tlb.toList.zipIdx.filter fun p => p.1.covers a (s.cop0.entryHi.setWidth 8)

/-- The page-offset mask of an entry: 0xFFF for 4 KiB pages (R108). -/
def TlbEntry.offsetMask (e : TlbEntry) : Word := (e.mask ||| 0x1FFF#32) >>> 1

/-- The half of an entry an address selects (R110). -/
def TlbEntry.half (e : TlbEntry) (a : Word) : Word :=
  if (a &&& (e.offsetMask + 1#32)) != 0#32 then e.lo1 else e.lo0

/-- The physical address through a half (R108, R110). -/
def TlbEntry.physical (e : TlbEntry) (a : Word) : Word :=
  ((((e.half a).extractLsb' 6 20).setWidth 32 <<< 12) &&& ~~~e.offsetMask) ||| (a &&& e.offsetMask)

/-- The outcome of a match (R111, R112). -/
def tlbUse (e : TlbEntry) (va : Dword) (acc : Access) : Xlate :=
  let lo := e.half (lo32 va)
  if !lo.getLsbD 1 then .fault (tlbInvalid acc va)
  else if acc = .store ∧ lo.getLsbD 2 = false then .fault (.tlbModification va)
  else .pa (e.physical (lo32 va))

/-- `TlbTranslate(va, acc)` (R108, R109). -/
def tlbTranslate (s : State) (va : Dword) (acc : Access) : Xlate :=
  match tlbHits s (lo32 va) with
  | [] => .fault (tlbMiss acc va)
  | [h] => tlbUse h.1 va acc
  | _ => .fatal .tlbMulti

/-- `Translate(va, acc, n)` (R103). -/
def translate (s : State) (va : Dword) (acc : Access) (w : Width) : Xlate :=
  let a := lo32 va
  if va.toNat % w.bytes ≠ 0 then .fault (addressError acc va)
  else if va ≠ sext32 a then (if s.ext then .fatal .xaddr else .fault (addressError acc va))
  else if a < 0x80000000#32 then (if s.erl then .pa a else tlbTranslate s va acc)
  else if a < 0xA0000000#32 then
    (if s.mode = .kernel then .pa (a - 0x80000000#32) else .fault (addressError acc va))
  else if a < 0xC0000000#32 then
    (if s.mode = .kernel then .pa (a - 0xA0000000#32) else .fault (addressError acc va))
  else if a < 0xE0000000#32 then
    (if s.mode = .user then .fault (addressError acc va) else tlbTranslate s va acc)
  else (if s.mode = .kernel then tlbTranslate s va acc else .fault (addressError acc va))

end Sys2Proof.Machine
end

