-- ==== Sys2Proof/Machine/Bus.lean ====
section
/-! DEFINITION. The physical bus (R117 to R126) and the virtual accesses through it (R115, R116, R320, R321). A value of an
access of `n` bytes stands in the low `8n` bits of a doubleword. -/

namespace Sys2Proof.Machine

/-- The first address of PIF RAM (R118). -/
def pifBase : Nat := 0x1FC007C0

/-- The byte of PIF RAM whose write triggers SERIAL_PROC (R125). -/
def pifTrigger : Nat := 0x1FC007FF

/-- The 64 bytes of PIF RAM. -/
def pifBytes (m : Memory) : List Byte := (List.range 64).map fun i => m.read (pifBase + i)

/-- Bytes `i` and up of PIF RAM replaced by those of SERIAL_PROC, `n` of them. -/
def pifFill (time : Nat) (old : List Byte) : Nat → Memory → Memory
  | 0, m => m
  | n + 1, m => (pifFill time old n m).write (pifBase + n) (Config.serialProc time old n)

/-- The serial-bus command processor runs on PIF RAM (R470); the call takes one draw for the host's snapshot (log 7). -/
def runSerial (s : State) : State :=
  { s with mem := pifFill s.draws (pifBytes s.mem) 64 s.mem, draws := s.draws + 1 }

/-- A write to a byte-array window (R117), and the PIF trigger if it covers the last byte of PIF RAM (R125). -/
def storeBytes (a : Nat) (w : Width) (v : Dword) (s : State) : State :=
  let t := { s with mem := s.mem.writeBE a w.bytes v }
  if a ≤ pifTrigger ∧ pifTrigger < a + w.bytes then runSerial t else t

/-- `BusRead(pa, n)` (R117, R120, R123, R124). -/
def busRead (pa : Word) (w : Width) (s : State) : Res Dword :=
  match windowOf s.inputs.rdram pa.toNat with
  | none => .fatal .busUnmapped s
  | some (win, base) =>
    if isByteWindow win then .ok (s.mem.readBE pa.toNat w.bytes) s
    else if win = .cart then
      if w = .dword then .fatal .busWidth s
      else .ok (cartRead (pa.toNat - base) w.bytes s).1 (cartRead (pa.toNat - base) w.bytes s).2
    else if w = .word then (deviceRead win base (pa.toNat - base) s).bind fun v t => .ok (zext32 v) t
    else .fatal .busWidth s

/-- `BusWrite(pa, n, v)` (R117, R120, R123, R124). -/
def busWrite (pa : Word) (w : Width) (v : Dword) (s : State) : Res Unit :=
  match windowOf s.inputs.rdram pa.toNat with
  | none => .fatal .busUnmapped s
  | some (win, base) =>
    if isByteWindow win then done (storeBytes pa.toNat w v s)
    else if win = .cart then .fatal .romWrite s
    else if w = .word then deviceWrite win base (pa.toNat - base) (lo32 v) s
    else .fatal .busWidth s

/-- The checks of a data access up to the bus (R311): reverse endian, then Translate, a fault raised with `use_prev`. -/
def dataAddr (va : Dword) (acc : Access) (w : Width) (s : State) : Res Word :=
  if s.mode = .user ∧ s.re then .fatal .reverseEndian s
  else
    match translate s va acc w with
    | .pa a => .ok a s
    | .fault k => raise k true s
    | .fatal r => .fatal r s

/-- `MemRead(va, n)` (R115). -/
def memRead (va : Dword) (w : Width) (s : State) : Res Dword :=
  (dataAddr va .load w s).bind fun pa t => busRead pa w t

/-- `MemWrite(va, n, v)` (R115). -/
def memWrite (va : Dword) (w : Width) (v : Dword) (s : State) : Res Unit :=
  (dataAddr va .store w s).bind fun pa t => busWrite pa w v t

/-- The aligned container of width `w` that holds physical address `pa` (R320). -/
def container (pa : Word) (w : Width) : Word := pa &&& ~~~(BitVec.ofNat 32 (w.bytes - 1))

/-- `PartialRead(va, n)` (R320). -/
def partialRead (va : Dword) (w : Width) (s : State) : Res Dword :=
  (dataAddr va .load .byte s).bind fun pa t => busRead (container pa w) w t

/-- `PartialWrite(va, n, mask, bits)` (R321): one translation, a bus read, a bus write of the merged container. -/
def partialWrite (va : Dword) (w : Width) (mask bits : Dword) (s : State) : Res Unit :=
  (dataAddr va .store .byte s).bind fun pa t =>
    (busRead (container pa w) w t).bind fun old u => busWrite (container pa w) w ((old &&& ~~~mask) ||| (bits &&& mask)) u

/-- The byte index of an address in its word (R320). -/
def byteInWord (va : Dword) : Nat := (va.setWidth 2).toNat

/-- The byte index of an address in its doubleword (R320). -/
def byteInDword (va : Dword) : Nat := (va.setWidth 3).toNat

end Sys2Proof.Machine
end

