-- ==== Sys2Proof/Machine/Scheduler.lean ====
section
/-! DEFINITION. The scheduler (R460 to R464): Tick runs every event that is due, earliest first. -/

namespace Sys2Proof.Machine

/-- The effect of an event (R461). -/
def runEvent (k : EventKind) (s : State) : State :=
  match k with
  | .piDmaDone => piDmaDoneEvent s
  | .viLine => viLineEvent s

/-- The loop of Tick, with at most `fuel` events to run. The queue is in order, so its head is the event with the least
(deadline, seq) (log 11). Fuel never runs out unless the loop has no end (log 10). -/
def tickLoop : Nat → State → Out
  | fuel, s =>
    match s.queue with
    | [] => .next s
    | e :: q =>
      if s.now < e.deadline then .next s
      else
        match fuel with
        | 0 => .fault (.tickDiverges s)
        | n + 1 => tickLoop n (runEvent e.kind { s with queue := q })

/-- `Tick(n)` (R460). With VI_LINE_CYCLES at least 1 an event that runs schedules nothing that is due, so as many rounds
as the queue is long are enough. -/
def tick (n : Nat) (s : State) : Out := tickLoop s.queue.length { s with now := s.now + n }

end Sys2Proof.Machine
end

