-- ==== Sys2Proof/Machine/Cycle.lean ====
section
/-! DEFINITION. The parts of a CPU step around the instruction (R60 to R65): timer match, flags, interrupt, fetch, advance, count. -/

namespace Sys2Proof.Machine

/-- Count matches Compare (R37, R432): `count = zext_32(Compare) << 1`. -/
def State.timerMatch (s : State) : Bool := s.cop0.count == s.cop0.compare.setWidth 33 <<< 1

/-- Parts 1 and 2 of the step (R61): a timer match sets Cause.IP7; the delay-slot flag moves to the previous one. -/
def beginStep (s : State) : State :=
  { s with
    cop0 := { s.cop0 with cause := if s.timerMatch then writeBit s.cop0.cause 15 true else s.cop0.cause }
    prevDelaySlot := s.delaySlot
    delaySlot := false }

/-- Part 3 (R61, R62): a pending interrupt is taken before the fetch, and the step goes on at the vector. -/
def takeInterrupt (s : State) : Res Unit :=
  if s.interruptPending then
    match (raise .interrupt false s : Res Unit) with
    | .ok _ t => done t
    | .raised t => done t
    | .fatal r t => .fatal r t
  else done s

/-- Part 6 (R61, R65): the program counter triple advances. -/
def advance (s : State) : State := { s with prevPc := s.pc, pc := s.nextPc, nextPc := s.nextPc + 4#64 }

/-- Parts 4 to 6 (R61, R63): translate the PC, fetch the word, advance. A fetch fault is raised here. -/
def fetchAtPc (s : State) : Res Word :=
  match translate s s.pc .fetch .word with
  | .fault k => raise k false s
  | .fatal r => .fatal r s
  | .pa a => (busRead a .word s).bind fun v t => .ok (lo32 v) (advance t)

/-- Parts 1 to 6 of the step (R61): the word to execute, in the state at dispatch. -/
def fetch (s : State) : Res Word := (takeInterrupt (beginStep s)).bind fun _ t => fetchAtPc t

/-- Part 8 (R61): Count advances by one, modulo 2^33. -/
def countUp (s : State) : State := { s with cop0 := { s.cop0 with count := s.cop0.count + 1#33 } }

/-- The end of a machine step whose instruction was executed: part 8, then Tick (R60, R61). -/
def finishStep (o : Out) : Out :=
  match o with
  | .next t => tick Config.cyclesPerStep (countUp t)
  | .fault f => .fault f
  | .refused r => .refused r

/-- The physical address the next step fetches from, if that is a byte of memory. -/
def fetchAddress (s : State) : Option Nat :=
  match takeInterrupt (beginStep s) with
  | .ok _ t =>
    match translate t t.pc .fetch .word with
    | .pa a => if inByteArray t.inputs.rdram a.toNat then some a.toNat else none
    | _ => none
  | _ => none

end Sys2Proof.Machine
end

