-- ==== Sys2Proof/Machine/Alu.lean ====
section
/-! DEFINITION. Integer arithmetic, logic, shifts and set (R200 to R241). None of these raises an exception (R201); the doubleword
ones pass the 64-bit gate first (R202). -/

namespace Sys2Proof.Machine

/-- Write a result to the destination register (R200). -/
def putGpr (r : Reg) (v : Dword) (s : State) : Out := .next (s.setGpr r v)

/-- Write a word result, sign-extended (R200). -/
def putWord (r : Reg) (v : Word) (s : State) : Out := putGpr r (sext32 v) s

/-- Write the result of a doubleword operation, after the gate (R202). -/
def putGated (r : Reg) (v : Dword) (s : State) : Out := (needs64 s (done (s.setGpr r v))).outcome

/-! ## Add and subtract -/

/-- ADD (R203). -/
def execAdd (rs rt rd : Reg) (s : State) : Out :=
  putWord rd (lo32 (s.gpr rs) + lo32 (s.gpr rt)) s

/-- ADDU (R204). -/
def execAddu (rs rt rd : Reg) (s : State) : Out :=
  putWord rd (lo32 (s.gpr rs) + lo32 (s.gpr rt)) s

/-- SUB (R205). -/
def execSub (rs rt rd : Reg) (s : State) : Out :=
  putWord rd (lo32 (s.gpr rs) - lo32 (s.gpr rt)) s

/-- SUBU (R206). -/
def execSubu (rs rt rd : Reg) (s : State) : Out :=
  putWord rd (lo32 (s.gpr rs) - lo32 (s.gpr rt)) s

/-- ADDI (R207). -/
def execAddi (rs rt : Reg) (imm : Imm) (s : State) : Out :=
  putWord rt (lo32 (s.gpr rs) + lo32 (simm imm)) s

/-- ADDIU (R208). -/
def execAddiu (rs rt : Reg) (imm : Imm) (s : State) : Out :=
  putWord rt (lo32 (s.gpr rs) + lo32 (simm imm)) s

/-- DADD (R209). -/
def execDadd (rs rt rd : Reg) (s : State) : Out :=
  putGated rd (s.gpr rs + s.gpr rt) s

/-- DADDU (R210). -/
def execDaddu (rs rt rd : Reg) (s : State) : Out :=
  putGated rd (s.gpr rs + s.gpr rt) s

/-- DSUB (R211). -/
def execDsub (rs rt rd : Reg) (s : State) : Out :=
  putGated rd (s.gpr rs - s.gpr rt) s

/-- DSUBU (R212). -/
def execDsubu (rs rt rd : Reg) (s : State) : Out :=
  putGated rd (s.gpr rs - s.gpr rt) s

/-- DADDI (R213). -/
def execDaddi (rs rt : Reg) (imm : Imm) (s : State) : Out :=
  putGated rt (s.gpr rs + simm imm) s

/-- DADDIU (R214). -/
def execDaddiu (rs rt : Reg) (imm : Imm) (s : State) : Out :=
  putGated rt (s.gpr rs + simm imm) s

/-! ## Set on less than -/

/-- SLT (R215). -/
def execSlt (rs rt rd : Reg) (s : State) : Out :=
  putGpr rd (truth ((s.gpr rs).slt (s.gpr rt))) s

/-- SLTU (R216). -/
def execSltu (rs rt rd : Reg) (s : State) : Out :=
  putGpr rd (truth ((s.gpr rs).ult (s.gpr rt))) s

/-- SLTI (R217). -/
def execSlti (rs rt : Reg) (imm : Imm) (s : State) : Out :=
  putGpr rt (truth ((s.gpr rs).slt (simm imm))) s

/-- SLTIU (R218). -/
def execSltiu (rs rt : Reg) (imm : Imm) (s : State) : Out :=
  putGpr rt (truth ((s.gpr rs).ult (simm imm))) s

/-! ## Logic -/

/-- AND (R219). -/
def execAnd (rs rt rd : Reg) (s : State) : Out :=
  putGpr rd (s.gpr rs &&& s.gpr rt) s

/-- OR (R220). -/
def execOr (rs rt rd : Reg) (s : State) : Out :=
  putGpr rd (s.gpr rs ||| s.gpr rt) s

/-- XOR (R221). -/
def execXor (rs rt rd : Reg) (s : State) : Out :=
  putGpr rd (s.gpr rs ^^^ s.gpr rt) s

/-- NOR (R222). -/
def execNor (rs rt rd : Reg) (s : State) : Out :=
  putGpr rd (~~~(s.gpr rs ||| s.gpr rt)) s

/-- ANDI (R223). -/
def execAndi (rs rt : Reg) (imm : Imm) (s : State) : Out :=
  putGpr rt (s.gpr rs &&& zimm imm) s

/-- ORI (R224). -/
def execOri (rs rt : Reg) (imm : Imm) (s : State) : Out :=
  putGpr rt (s.gpr rs ||| zimm imm) s

/-- XORI (R225). -/
def execXori (rs rt : Reg) (imm : Imm) (s : State) : Out :=
  putGpr rt (s.gpr rs ^^^ zimm imm) s

/-- LUI (R226). -/
def execLui (rt : Reg) (imm : Imm) (s : State) : Out :=
  putGpr rt (upperImm imm) s

/-! ## Word shifts -/

/-- SLL (R227). -/
def execSll (rt rd : Reg) (sa : BitVec 5) (s : State) : Out :=
  putWord rd (lo32 (s.gpr rt) <<< sa.toNat) s

/-- SRL (R228). -/
def execSrl (rt rd : Reg) (sa : BitVec 5) (s : State) : Out :=
  putWord rd (lo32 (s.gpr rt) >>> sa.toNat) s

/-- SRA (R229). -/
def execSra (rt rd : Reg) (sa : BitVec 5) (s : State) : Out :=
  putWord rd ((lo32 (s.gpr rt)).sshiftRight sa.toNat) s

/-- SLLV (R230). -/
def execSllv (rs rt rd : Reg) (s : State) : Out :=
  putWord rd (lo32 (s.gpr rt) <<< amount5 (s.gpr rs)) s

/-- SRLV (R231). -/
def execSrlv (rs rt rd : Reg) (s : State) : Out :=
  putWord rd (lo32 (s.gpr rt) >>> amount5 (s.gpr rs)) s

/-- SRAV (R232). -/
def execSrav (rs rt rd : Reg) (s : State) : Out :=
  putWord rd ((lo32 (s.gpr rt)).sshiftRight (amount5 (s.gpr rs))) s

/-! ## Doubleword shifts -/

/-- DSLL (R233). -/
def execDsll (rt rd : Reg) (sa : BitVec 5) (s : State) : Out :=
  putGated rd (s.gpr rt <<< sa.toNat) s

/-- DSRL (R234). -/
def execDsrl (rt rd : Reg) (sa : BitVec 5) (s : State) : Out :=
  putGated rd (s.gpr rt >>> sa.toNat) s

/-- DSRA (R235). -/
def execDsra (rt rd : Reg) (sa : BitVec 5) (s : State) : Out :=
  putGated rd ((s.gpr rt).sshiftRight sa.toNat) s

/-- DSLL32 (R236). -/
def execDsll32 (rt rd : Reg) (sa : BitVec 5) (s : State) : Out :=
  putGated rd (s.gpr rt <<< (sa.toNat + 32)) s

/-- DSRL32 (R237). -/
def execDsrl32 (rt rd : Reg) (sa : BitVec 5) (s : State) : Out :=
  putGated rd (s.gpr rt >>> (sa.toNat + 32)) s

/-- DSRA32 (R238). -/
def execDsra32 (rt rd : Reg) (sa : BitVec 5) (s : State) : Out :=
  putGated rd ((s.gpr rt).sshiftRight (sa.toNat + 32)) s

/-- DSLLV (R239). -/
def execDsllv (rs rt rd : Reg) (s : State) : Out :=
  putGated rd (s.gpr rt <<< amount6 (s.gpr rs)) s

/-- DSRLV (R240). -/
def execDsrlv (rs rt rd : Reg) (s : State) : Out :=
  putGated rd (s.gpr rt >>> amount6 (s.gpr rs)) s

/-- DSRAV (R241). -/
def execDsrav (rs rt rd : Reg) (s : State) : Out :=
  putGated rd ((s.gpr rt).sshiftRight (amount6 (s.gpr rs))) s

end Sys2Proof.Machine
end

