-- ==== Sys2Proof/Machine/Branch.lean ====
section
/-! DEFINITION. Branches and jumps (R280 to R306). At dispatch `pc` is the delay slot's address and `prevPc` the branch's own (R25). -/

namespace Sys2Proof.Machine

/-- `Branch(cond, target)` (R280): a taken branch redirects `nextPc` and marks the delay slot. -/
def branch (cond : Bool) (target : Dword) (s : State) : State :=
  if cond then { s with nextPc := target, delaySlot := true } else s

/-- `BranchLikely(cond, target)` (R280, R284): not taken, the delay slot is skipped. -/
def branchLikely (cond : Bool) (target : Dword) (s : State) : State :=
  if cond then { s with nextPc := target, delaySlot := true }
  else { s with pc := s.nextPc, nextPc := s.nextPc + 4#64, delaySlot := Config.likelyNtMarksDs }

/-- Write the return address, the one after the delay slot (R285). -/
def link (r : Reg) (s : State) : State := s.setGpr r (s.prevPc + 8#64)

/-- An ordinary conditional branch (R283, R287 to R292). -/
def ordinaryBranch (cond : Bool) (offset : Imm) (s : State) : Out :=
  (needsNoSlot s (done (branch cond (branchTarget s offset) s))).outcome

/-- A branch-likely (R283, R295 to R300). -/
def likelyBranch (cond : Bool) (offset : Imm) (s : State) : Out :=
  (needsNoSlot s (done (branchLikely cond (branchTarget s offset) s))).outcome

/-- A conditional branch that links register 31 whether or not it is taken (R285). -/
def linkBranch (cond : Bool) (offset : Imm) (s : State) : Out :=
  (needsNoSlot s (done (branch cond (branchTarget s offset) (link 31#5 s)))).outcome

/-- A branch-likely that links register 31 whether or not it is taken (R285). -/
def linkLikelyBranch (cond : Bool) (offset : Imm) (s : State) : Out :=
  (needsNoSlot s (done (branchLikely cond (branchTarget s offset) (link 31#5 s)))).outcome

/-- A jump (R283, R303 to R306). -/
def jump (target : Dword) (s : State) : Out := (needsNoSlot s (done (branch true target s))).outcome

/-- A jump that links (R285). -/
def jumpLink (r : Reg) (target : Dword) (s : State) : Out := (needsNoSlot s (done (branch true target (link r s)))).outcome

/-- BEQ (R287). -/
def execBeq (rs rt : Reg) (offset : Imm) (s : State) : Out :=
  ordinaryBranch (s.gpr rs == s.gpr rt) offset s

/-- BNE (R288). -/
def execBne (rs rt : Reg) (offset : Imm) (s : State) : Out :=
  ordinaryBranch (s.gpr rs != s.gpr rt) offset s

/-- BLEZ (R289). -/
def execBlez (rs : Reg) (offset : Imm) (s : State) : Out :=
  ordinaryBranch ((s.gpr rs).sle 0#64) offset s

/-- BGTZ (R290). -/
def execBgtz (rs : Reg) (offset : Imm) (s : State) : Out :=
  ordinaryBranch (BitVec.slt 0#64 (s.gpr rs)) offset s

/-- BLTZ (R291). -/
def execBltz (rs : Reg) (offset : Imm) (s : State) : Out :=
  ordinaryBranch ((s.gpr rs).slt 0#64) offset s

/-- BGEZ (R292). -/
def execBgez (rs : Reg) (offset : Imm) (s : State) : Out :=
  ordinaryBranch (BitVec.sle 0#64 (s.gpr rs)) offset s

/-- BLTZAL (R293). -/
def execBltzal (rs : Reg) (offset : Imm) (s : State) : Out :=
  linkBranch ((s.gpr rs).slt 0#64) offset s

/-- BGEZAL (R294). -/
def execBgezal (rs : Reg) (offset : Imm) (s : State) : Out :=
  linkBranch (BitVec.sle 0#64 (s.gpr rs)) offset s

/-- BEQL (R295). -/
def execBeql (rs rt : Reg) (offset : Imm) (s : State) : Out :=
  likelyBranch (s.gpr rs == s.gpr rt) offset s

/-- BNEL (R296). -/
def execBnel (rs rt : Reg) (offset : Imm) (s : State) : Out :=
  likelyBranch (s.gpr rs != s.gpr rt) offset s

/-- BLEZL (R297). -/
def execBlezl (rs : Reg) (offset : Imm) (s : State) : Out :=
  likelyBranch ((s.gpr rs).sle 0#64) offset s

/-- BGTZL (R298). -/
def execBgtzl (rs : Reg) (offset : Imm) (s : State) : Out :=
  likelyBranch (BitVec.slt 0#64 (s.gpr rs)) offset s

/-- BLTZL (R299). -/
def execBltzl (rs : Reg) (offset : Imm) (s : State) : Out :=
  likelyBranch ((s.gpr rs).slt 0#64) offset s

/-- BGEZL (R300). -/
def execBgezl (rs : Reg) (offset : Imm) (s : State) : Out :=
  likelyBranch (BitVec.sle 0#64 (s.gpr rs)) offset s

/-- BLTZALL (R301). -/
def execBltzall (rs : Reg) (offset : Imm) (s : State) : Out :=
  linkLikelyBranch ((s.gpr rs).slt 0#64) offset s

/-- BGEZALL (R302). -/
def execBgezall (rs : Reg) (offset : Imm) (s : State) : Out :=
  linkLikelyBranch (BitVec.sle 0#64 (s.gpr rs)) offset s

/-- J (R303). -/
def execJ (index : BitVec 26) (s : State) : Out :=
  jump (jumpTarget s index) s

/-- JAL (R304). -/
def execJal (index : BitVec 26) (s : State) : Out :=
  jumpLink 31#5 (jumpTarget s index) s

/-- JR (R305). -/
def execJr (rs : Reg) (s : State) : Out :=
  jump (s.gpr rs) s

/-- JALR: the target is read before the link is written (R306). -/
def execJalr (rs rd : Reg) (s : State) : Out :=
  jumpLink rd (s.gpr rs) s

end Sys2Proof.Machine
end

