-- ==== Sys2Proof/Machine/LoadStore.lean ====
section
/-! DEFINITION. Loads and stores (R310 to R337). -/

namespace Sys2Proof.Machine

/-- A load: read, then write the destination with `f` of the value read (R312). -/
def load (va : Dword) (w : Width) (rt : Reg) (f : Dword → Dword) (s : State) : Res Unit :=
  (memRead va w s).bind fun v t => done (t.setGpr rt (f v))

/-- A load of part of a container (R320). -/
def loadPart (va : Dword) (w : Width) (rt : Reg) (f : Dword → Dword) (s : State) : Res Unit :=
  (partialRead va w s).bind fun v t => done (t.setGpr rt (f v))

/-- The word LWL writes: memory bytes `k`..3 above the register's low `k` bytes (R322). -/
def lwlMerge (k : Nat) (w old : Word) : Word := (w <<< (8 * k)) ||| (old &&& (BitVec.twoPow 32 (8 * k) - 1#32))

/-- The word LWR writes: memory bytes 0..`k` below the register's high `3 - k` bytes (R323). -/
def lwrMerge (k : Nat) (w old : Word) : Word :=
  (w >>> (8 * (3 - k))) ||| (old &&& ~~~(0xFFFFFFFF#32 >>> (8 * (3 - k))))

/-- The doubleword LDL writes (R324). -/
def ldlMerge (k : Nat) (d old : Dword) : Dword := (d <<< (8 * k)) ||| (old &&& (BitVec.twoPow 64 (8 * k) - 1#64))

/-- The doubleword LDR writes (R325). -/
def ldrMerge (k : Nat) (d old : Dword) : Dword :=
  (d >>> (8 * (7 - k))) ||| (old &&& ~~~(0xFFFFFFFFFFFFFFFF#64 >>> (8 * (7 - k))))

/-- LL and LLD (R330): read, set the link bit, and write LLAddr with the physical address shifted right by 4. -/
def loadLinked (va : Dword) (w : Width) (rt : Reg) (f : Dword → Dword) (s : State) : Res Unit :=
  (dataAddr va .load w s).bind fun pa t =>
    (busRead pa w t).bind fun v u =>
      let r := u.setGpr rt (f v)
      done { r with llbit := true, cop0 := { r.cop0 with llAddr := pa >>> 4 } }

/-- SC and SCD (R332): translate whatever the link bit is; with it set, store and write 1, else write 0. -/
def storeConditional (va : Dword) (w : Width) (rt : Reg) (s : State) : Res Unit :=
  (dataAddr va .store w s).bind fun pa t =>
    if t.llbit then (busWrite pa w (t.gpr rt) t).bind fun _ u => done (u.setGpr rt 1#64)
    else done (t.setGpr rt 0#64)

/-- LB (R313). -/
def execLb (base rt : Reg) (offset : Imm) (s : State) : Out :=
  (load (effAddr s base offset) .byte rt (fun v => (v.setWidth 8).signExtend 64) s).outcome

/-- LBU (R314). -/
def execLbu (base rt : Reg) (offset : Imm) (s : State) : Out :=
  (load (effAddr s base offset) .byte rt (fun v => (v.setWidth 8).setWidth 64) s).outcome

/-- LH (R315). -/
def execLh (base rt : Reg) (offset : Imm) (s : State) : Out :=
  (load (effAddr s base offset) .half rt (fun v => (v.setWidth 16).signExtend 64) s).outcome

/-- LHU (R316). -/
def execLhu (base rt : Reg) (offset : Imm) (s : State) : Out :=
  (load (effAddr s base offset) .half rt (fun v => (v.setWidth 16).setWidth 64) s).outcome

/-- LW (R317). -/
def execLw (base rt : Reg) (offset : Imm) (s : State) : Out :=
  (load (effAddr s base offset) .word rt (fun v => sext32 (lo32 v)) s).outcome

/-- LWU (R318). -/
def execLwu (base rt : Reg) (offset : Imm) (s : State) : Out :=
  (needs64 s (load (effAddr s base offset) .word rt (fun v => zext32 (lo32 v)) s)).outcome

/-- LD (R319). -/
def execLd (base rt : Reg) (offset : Imm) (s : State) : Out :=
  (needs64 s (load (effAddr s base offset) .dword rt (fun v => v) s)).outcome

/-- LWL (R322). -/
def execLwl (base rt : Reg) (offset : Imm) (s : State) : Out :=
  (loadPart (effAddr s base offset) .word rt
    (fun v => sext32 (lwlMerge (byteInWord (effAddr s base offset)) (lo32 v) (lo32 (s.gpr rt)))) s).outcome

/-- LWR (R323). -/
def execLwr (base rt : Reg) (offset : Imm) (s : State) : Out :=
  (loadPart (effAddr s base offset) .word rt
    (fun v => sext32 (lwrMerge (byteInWord (effAddr s base offset)) (lo32 v) (lo32 (s.gpr rt)))) s).outcome

/-- LDL (R324). -/
def execLdl (base rt : Reg) (offset : Imm) (s : State) : Out :=
  (needs64 s (loadPart (effAddr s base offset) .dword rt
    (fun v => ldlMerge (byteInDword (effAddr s base offset)) v (s.gpr rt)) s)).outcome

/-- LDR (R325). -/
def execLdr (base rt : Reg) (offset : Imm) (s : State) : Out :=
  (needs64 s (loadPart (effAddr s base offset) .dword rt
    (fun v => ldrMerge (byteInDword (effAddr s base offset)) v (s.gpr rt)) s)).outcome

/-- SB (R326). -/
def execSb (base rt : Reg) (offset : Imm) (s : State) : Out :=
  (memWrite (effAddr s base offset) .byte (s.gpr rt) s).outcome

/-- SH (R327). -/
def execSh (base rt : Reg) (offset : Imm) (s : State) : Out :=
  (memWrite (effAddr s base offset) .half (s.gpr rt) s).outcome

/-- SW (R328). -/
def execSw (base rt : Reg) (offset : Imm) (s : State) : Out :=
  (memWrite (effAddr s base offset) .word (s.gpr rt) s).outcome

/-- SD (R329). -/
def execSd (base rt : Reg) (offset : Imm) (s : State) : Out :=
  (needs64 s (memWrite (effAddr s base offset) .dword (s.gpr rt) s)).outcome

/-- LL (R330). -/
def execLl (base rt : Reg) (offset : Imm) (s : State) : Out :=
  (loadLinked (effAddr s base offset) .word rt (fun v => sext32 (lo32 v)) s).outcome

/-- LLD (R331). -/
def execLld (base rt : Reg) (offset : Imm) (s : State) : Out :=
  (needs64 s (loadLinked (effAddr s base offset) .dword rt (fun v => v) s)).outcome

/-- SC (R332). -/
def execSc (base rt : Reg) (offset : Imm) (s : State) : Out :=
  (storeConditional (effAddr s base offset) .word rt s).outcome

/-- SCD (R333). -/
def execScd (base rt : Reg) (offset : Imm) (s : State) : Out :=
  (needs64 s (storeConditional (effAddr s base offset) .dword rt s)).outcome

/-- SWL (R334). -/
def execSwl (base rt : Reg) (offset : Imm) (s : State) : Out :=
  (partialWrite (effAddr s base offset) .word (zext32 (0xFFFFFFFF#32 >>> (8 * byteInWord (effAddr s base offset))))
    (zext32 (lo32 (s.gpr rt) >>> (8 * byteInWord (effAddr s base offset)))) s).outcome

/-- SWR (R335). -/
def execSwr (base rt : Reg) (offset : Imm) (s : State) : Out :=
  (partialWrite (effAddr s base offset) .word (zext32 (0xFFFFFFFF#32 <<< (8 * (3 - byteInWord (effAddr s base offset)))))
    (zext32 (lo32 (s.gpr rt) <<< (8 * (3 - byteInWord (effAddr s base offset))))) s).outcome

/-- SDL (R336). -/
def execSdl (base rt : Reg) (offset : Imm) (s : State) : Out :=
  (needs64 s (partialWrite (effAddr s base offset) .dword (0xFFFFFFFFFFFFFFFF#64 >>> (8 * byteInDword (effAddr s base offset)))
    (s.gpr rt >>> (8 * byteInDword (effAddr s base offset))) s)).outcome

/-- SDR (R337). -/
def execSdr (base rt : Reg) (offset : Imm) (s : State) : Out :=
  (needs64 s (partialWrite (effAddr s base offset) .dword (0xFFFFFFFFFFFFFFFF#64 <<< (8 * (7 - byteInDword (effAddr s base offset))))
    (s.gpr rt <<< (8 * (7 - byteInDword (effAddr s base offset)))) s)).outcome

end Sys2Proof.Machine
end

