-- ==== Sys2Proof/Machine/Cop1.lean ====
section
/-! DEFINITION. COP1: control registers, data moves, FP loads and stores, FP-condition branches, and the refusal of FP compute
(R380 to R399). -/

namespace Sys2Proof.Machine

/-- The even register whose high half an odd register names while FR = 0 (R381). -/
def evenOf (r : Reg) : Reg := r &&& 0x1E#5

/-- A register stands for itself: FR = 1, or an even number (R381). -/
def fpWhole (s : State) (r : Reg) : Bool := s.fr || !r.getLsbD 0

/-- `FpRead32(r)` (R381). -/
def fpRead32 (r : Reg) (s : State) : Word :=
  if fpWhole s r then (s.fgr r).setWidth 32 else (s.fgr (evenOf r)).extractLsb' 32 32

/-- `FpWrite32(r, v)` (R381): the other half is unchanged. -/
def fpWrite32 (r : Reg) (v : Word) (s : State) : State :=
  if fpWhole s r then s.setFgr r ((s.fgr r).extractLsb' 32 32 ++ v)
  else s.setFgr (evenOf r) (v ++ (s.fgr (evenOf r)).setWidth 32)

/-- `FpRead64(r)` (R381). -/
def fpRead64 (r : Reg) (s : State) : Res Dword := if fpWhole s r then .ok (s.fgr r) s else .fatal .fr0OddDouble s

/-- `FpWrite64(r, v)` (R381). -/
def fpWrite64 (r : Reg) (v : Dword) (s : State) : Res Unit :=
  if fpWhole s r then done (s.setFgr r v) else .fatal .fr0OddDouble s

/-- CFC1 (R383). -/
def execCfc1 (rt fs : Reg) (s : State) : Out :=
  (needsCop1 s
    (if fs = 0#5 then done (s.setGpr rt (sext32 Config.fcr0))
     else if fs = 31#5 then done (s.setGpr rt (sext32 s.fcr31))
     else .fatal .cop1ControlIndex s)).outcome

/-- The bits of FCR31 that CTC1 writes (R48). -/
def fcr31Mask : Word := 0x0183FFFF#32

/-- CTC1 (R386). -/
def execCtc1 (rt fs : Reg) (s : State) : Out :=
  (needsCop1 s
    (if fs ≠ 31#5 then .fatal .cop1ControlIndex s
     else if fcsrPending (lo32 (s.gpr rt) &&& fcr31Mask) then .fatal .fpuException s
     else done { s with fcr31 := lo32 (s.gpr rt) &&& fcr31Mask })).outcome

/-- MFC1 (R384). -/
def execMfc1 (rt fs : Reg) (s : State) : Out :=
  (needsCop1 s (done (s.setGpr rt (sext32 (fpRead32 fs s))))).outcome

/-- DMFC1 (R385). -/
def execDmfc1 (rt fs : Reg) (s : State) : Out :=
  (needs64 s (needsCop1 s ((fpRead64 fs s).bind fun v t => done (t.setGpr rt v)))).outcome

/-- MTC1 (R387). -/
def execMtc1 (rt fs : Reg) (s : State) : Out :=
  (needsCop1 s (done (fpWrite32 fs (lo32 (s.gpr rt)) s))).outcome

/-- DMTC1 (R388). -/
def execDmtc1 (rt fs : Reg) (s : State) : Out :=
  (needs64 s (needsCop1 s (fpWrite64 fs (s.gpr rt) s))).outcome

/-- An FP-condition branch (R389): the delay-slot check, then CU1, then the branch. -/
def fpBranch (cond : Bool) (offset : Imm) (s : State) : Out :=
  (needsNoSlot s (needsCop1 s (done (branch cond (branchTarget s offset) s)))).outcome

/-- An FP-condition branch-likely (R391). -/
def fpLikelyBranch (cond : Bool) (offset : Imm) (s : State) : Out :=
  (needsNoSlot s (needsCop1 s (done (branchLikely cond (branchTarget s offset) s)))).outcome

/-- BC1F (R389). -/
def execBc1f (offset : Imm) (s : State) : Out :=
  fpBranch (!s.fpCond) offset s

/-- BC1T (R390). -/
def execBc1t (offset : Imm) (s : State) : Out :=
  fpBranch s.fpCond offset s

/-- BC1FL (R391). -/
def execBc1fl (offset : Imm) (s : State) : Out :=
  fpLikelyBranch (!s.fpCond) offset s

/-- BC1TL (R392). -/
def execBc1tl (offset : Imm) (s : State) : Out :=
  fpLikelyBranch s.fpCond offset s

/-- LWC1 (R393). -/
def execLwc1 (base ft : Reg) (offset : Imm) (s : State) : Out :=
  (needsCop1 s ((memRead (effAddr s base offset) .word s).bind fun v t => done (fpWrite32 ft (lo32 v) t))).outcome

/-- LDC1: the FR check comes after the read (R394). -/
def execLdc1 (base ft : Reg) (offset : Imm) (s : State) : Out :=
  (needsCop1 s ((memRead (effAddr s base offset) .dword s).bind fun v t => fpWrite64 ft v t)).outcome

/-- SWC1 (R395). -/
def execSwc1 (base ft : Reg) (offset : Imm) (s : State) : Out :=
  (needsCop1 s (memWrite (effAddr s base offset) .word (zext32 (fpRead32 ft s)) s)).outcome

/-- SDC1: the FR check comes before the access (R396). -/
def execSdc1 (base ft : Reg) (offset : Imm) (s : State) : Out :=
  (needsCop1 s ((fpRead64 ft s).bind fun v t => memWrite (effAddr s base offset) .dword v t)).outcome

/-- FP compute (R399): COP_UNUSABLE while CU1 = 0, else Fatal, whatever the function. -/
def fpCompute (s : State) : Out := (needsCop1 s (.fatal .fpuArithmetic s : Res Unit)).outcome

/-- FP-COMPUTE.S (R399). -/
def execFpComputeS (_ft _fs _fd : Reg) (_funct : BitVec 6) (s : State) : Out :=
  fpCompute s

/-- FP-COMPUTE.D (R399). -/
def execFpComputeD (_ft _fs _fd : Reg) (_funct : BitVec 6) (s : State) : Out :=
  fpCompute s

/-- FP-COMPUTE.W (R399). -/
def execFpComputeW (_ft _fs _fd : Reg) (_funct : BitVec 6) (s : State) : Out :=
  fpCompute s

/-- FP-COMPUTE.L (R399). -/
def execFpComputeL (_ft _fs _fd : Reg) (_funct : BitVec 6) (s : State) : Out :=
  fpCompute s

end Sys2Proof.Machine
end

