-- ==== Sys2Proof/Machine/MulDiv.lean ====
section
/-! DEFINITION. Multiply, divide and the HI/LO moves (R260 to R277). -/

namespace Sys2Proof.Machine

/-- Write HI and LO. -/
def State.setHiLo (s : State) (hi lo : Dword) : State := { s with hi := hi, lo := lo }

/-- Write HI and LO with the two halves of a 64-bit word product, each sign-extended (R260). -/
def putWordProduct (p : BitVec 64) (s : State) : Out :=
  .next (s.setHiLo (sext32 (p.extractLsb' 32 32)) (sext32 (p.extractLsb' 0 32)))

/-- Write HI and LO with the two halves of a 128-bit product, after the gate (R260, R262). -/
def putDwordProduct (p : BitVec 128) (s : State) : Out :=
  (needs64 s (done (s.setHiLo (p.extractLsb' 64 64) (p.extractLsb' 0 64)))).outcome

/-- MFHI (R263). -/
def execMfhi (rd : Reg) (s : State) : Out :=
  .next (s.setGpr rd s.hi)

/-- MTHI (R264). -/
def execMthi (rs : Reg) (s : State) : Out :=
  .next { s with hi := s.gpr rs }

/-- MFLO (R265). -/
def execMflo (rd : Reg) (s : State) : Out :=
  .next (s.setGpr rd s.lo)

/-- MTLO (R266). -/
def execMtlo (rs : Reg) (s : State) : Out :=
  .next { s with lo := s.gpr rs }

/-- MULT (R267). -/
def execMult (rs rt : Reg) (s : State) : Out :=
  putWordProduct ((lo32 (s.gpr rs)).signExtend 64 * (lo32 (s.gpr rt)).signExtend 64) s

/-- MULTU (R268). -/
def execMultu (rs rt : Reg) (s : State) : Out :=
  putWordProduct ((lo32 (s.gpr rs)).setWidth 64 * (lo32 (s.gpr rt)).setWidth 64) s

/-- DMULT (R269). -/
def execDmult (rs rt : Reg) (s : State) : Out :=
  putDwordProduct ((s.gpr rs).signExtend 128 * (s.gpr rt).signExtend 128) s

/-- DMULTU (R270). -/
def execDmultu (rs rt : Reg) (s : State) : Out :=
  putDwordProduct ((s.gpr rs).setWidth 128 * (s.gpr rt).setWidth 128) s

/-- HI and LO of DIV (R271): quotient in LO, remainder in HI, truncating; the degenerate cases as the rule gives them. -/
def divWords (a b : Word) : Dword × Dword :=
  if b = 0#32 then (sext32 a, if a.msb then 1#64 else 0xFFFFFFFFFFFFFFFF#64)
  else if a = 0x80000000#32 ∧ b = 0xFFFFFFFF#32 then (0#64, 0xFFFFFFFF80000000#64)
  else (sext32 (a.srem b), sext32 (a.sdiv b))

/-- HI and LO of DIVU (R272). -/
def divuWords (a b : Word) : Dword × Dword :=
  if b = 0#32 then (sext32 a, 0xFFFFFFFFFFFFFFFF#64) else (sext32 (a.umod b), sext32 (a.udiv b))

/-- DIV (R271). -/
def execDiv (rs rt : Reg) (s : State) : Out :=
  .next (s.setHiLo (divWords (lo32 (s.gpr rs)) (lo32 (s.gpr rt))).1 (divWords (lo32 (s.gpr rs)) (lo32 (s.gpr rt))).2)

/-- DIVU (R272). -/
def execDivu (rs rt : Reg) (s : State) : Out :=
  .next (s.setHiLo (divuWords (lo32 (s.gpr rs)) (lo32 (s.gpr rt))).1 (divuWords (lo32 (s.gpr rs)) (lo32 (s.gpr rt))).2)

/-- DDIV: by zero, or -2^63 by -1, is Fatal (R276). -/
def execDdiv (rs rt : Reg) (s : State) : Out :=
  (needs64 s
    (if s.gpr rt = 0#64 ∨ (s.gpr rs = 0x8000000000000000#64 ∧ s.gpr rt = 0xFFFFFFFFFFFFFFFF#64) then .fatal .ddivEdge s
     else done (s.setHiLo ((s.gpr rs).srem (s.gpr rt)) ((s.gpr rs).sdiv (s.gpr rt))))).outcome

/-- DDIVU: by zero is Fatal (R277). -/
def execDdivu (rs rt : Reg) (s : State) : Out :=
  (needs64 s
    (if s.gpr rt = 0#64 then .fatal .ddivEdge s
     else done (s.setHiLo ((s.gpr rs).umod (s.gpr rt)) ((s.gpr rs).udiv (s.gpr rt))))).outcome

end Sys2Proof.Machine
end

