-- ==== Sys2Proof/Machine/System.lean ====
section
/-! DEFINITION. System instructions: traps, SYNC and CACHE, COP0 moves, the TLB instructions and ERET (R340 to R376). -/

namespace Sys2Proof.Machine

/-- A trap (R340): TRAP with `use_prev` when the condition holds, else nothing. -/
def trapIf (cond : Bool) (s : State) : Out := (if cond then raise .trap true s else done s).outcome

/-- SYSCALL (R341). -/
def execSyscall (_code : BitVec 20) (s : State) : Out :=
  (raise .syscall true s : Res Unit).outcome

/-- BREAK (R342). -/
def execBrk (_code : BitVec 20) (s : State) : Out :=
  (raise .breakpoint true s : Res Unit).outcome

/-- TGE (R343). -/
def execTge (rs rt : Reg) (_code : BitVec 10) (s : State) : Out :=
  trapIf ((s.gpr rt).sle (s.gpr rs)) s

/-- TGEU (R344). -/
def execTgeu (rs rt : Reg) (_code : BitVec 10) (s : State) : Out :=
  trapIf ((s.gpr rt).ule (s.gpr rs)) s

/-- TLT (R345). -/
def execTlt (rs rt : Reg) (_code : BitVec 10) (s : State) : Out :=
  trapIf ((s.gpr rs).slt (s.gpr rt)) s

/-- TLTU (R346). -/
def execTltu (rs rt : Reg) (_code : BitVec 10) (s : State) : Out :=
  trapIf ((s.gpr rs).ult (s.gpr rt)) s

/-- TEQ (R347). -/
def execTeq (rs rt : Reg) (_code : BitVec 10) (s : State) : Out :=
  trapIf (s.gpr rs == s.gpr rt) s

/-- TNE (R348). -/
def execTne (rs rt : Reg) (_code : BitVec 10) (s : State) : Out :=
  trapIf (s.gpr rs != s.gpr rt) s

/-- TGEI (R349). -/
def execTgei (rs : Reg) (imm : Imm) (s : State) : Out :=
  trapIf ((simm imm).sle (s.gpr rs)) s

/-- TGEIU (R350). -/
def execTgeiu (rs : Reg) (imm : Imm) (s : State) : Out :=
  trapIf ((simm imm).ule (s.gpr rs)) s

/-- TLTI (R351). -/
def execTlti (rs : Reg) (imm : Imm) (s : State) : Out :=
  trapIf ((s.gpr rs).slt (simm imm)) s

/-- TLTIU (R352). -/
def execTltiu (rs : Reg) (imm : Imm) (s : State) : Out :=
  trapIf ((s.gpr rs).ult (simm imm)) s

/-- TEQI (R353). -/
def execTeqi (rs : Reg) (imm : Imm) (s : State) : Out :=
  trapIf (s.gpr rs == simm imm) s

/-- TNEI (R354). -/
def execTnei (rs : Reg) (imm : Imm) (s : State) : Out :=
  trapIf (s.gpr rs != simm imm) s

/-- SYNC: nothing to order (R356). -/
def execSync (_stype : BitVec 5) (s : State) : Out :=
  .next s

/-- CACHE: nothing after its usability check (R357). -/
def execCache (_base : Reg) (_op : BitVec 5) (_offset : Imm) (s : State) : Out :=
  (needsCop0 s (done s)).outcome

/-! ## COP0 moves -/

/-- A read of Random (R31): a draw in [Wired, 31], or in [0, 31] when Wired is above 31. -/
def randomRead (s : State) : Dword × State :=
  let w := (s.cop0.wired.setWidth 6).toNat
  let lo := if 31 < w then 0 else w
  (BitVec.ofNat 64 (lo + s.draw.1.toNat % (32 - lo)), s.draw.2)

/-- `Cop0Read(n)` (R366): a 32-bit register sign-extended; a register the core does not have is Fatal (R365). -/
def cop0Read (n : BitVec 5) (s : State) : Res Dword :=
  let c := s.cop0
  match n.toNat with
  | 0 => .ok (sext32 c.index) s
  | 1 => .ok (randomRead s).1 (randomRead s).2
  | 2 => .ok (sext32 c.entryLo0) s
  | 3 => .ok (sext32 c.entryLo1) s
  | 4 => .ok c.context s
  | 5 => .ok (sext32 c.pageMask) s
  | 6 => .ok (sext32 c.wired) s
  | 8 => .ok c.badVAddr s
  | 9 => .ok (sext32 (c.count.extractLsb' 1 32)) s
  | 10 => .ok c.entryHi s
  | 11 => .ok (sext32 c.compare) s
  | 12 => .ok (sext32 c.status) s
  | 13 => .ok (sext32 c.cause) s
  | 14 => .ok c.epc s
  | 15 => .ok (sext32 Config.prid) s
  | 16 => .ok (sext32 c.config) s
  | 17 => .ok (sext32 c.llAddr) s
  | 18 => .ok (sext32 c.watchLo) s
  | 19 => .ok (sext32 c.watchHi) s
  | 20 => .ok c.xContext s
  | 30 => .ok c.errorEpc s
  | _ => .fatal .cop0Index s

/-- `Cop0Write(n, v)` (R367): the write masks of R29, with the special cases of R367. -/
def cop0Write (n : BitVec 5) (v : Dword) (s : State) : Res Unit :=
  let c := s.cop0
  let w := lo32 v
  match n.toNat with
  | 0 => done { s with cop0 := { c with index := maskWrite 0x8000003F#32 c.index w } }
  | 1 => done s
  | 2 => done { s with cop0 := { c with entryLo0 := maskWrite 0x03FFFFFF#32 c.entryLo0 w } }
  | 3 => done { s with cop0 := { c with entryLo1 := maskWrite 0x03FFFFFF#32 c.entryLo1 w } }
  | 4 => done { s with cop0 := { c with context := maskWrite 0xFFFFFFFFFF800000#64 c.context v } }
  | 5 => done { s with cop0 := { c with pageMask := maskWrite 0x01FFE000#32 c.pageMask w } }
  | 6 => done { s with cop0 := { c with wired := maskWrite 0x0000003F#32 c.wired w } }
  | 8 => done s
  | 9 => done { s with cop0 := { c with count := w.setWidth 33 <<< 1 } }
  | 10 => done { s with cop0 := { c with entryHi := maskWrite 0xC00000FFFFFFE0FF#64 c.entryHi v } }
  | 11 => done { s with cop0 := { c with compare := w, cause := writeBit c.cause 15 false } }
  | 12 => done { s with cop0 := { c with status := maskWrite 0xFF57FFFF#32 c.status w } }
  | 13 => done { s with cop0 := { c with cause := maskWrite 0x00000300#32 c.cause w } }
  | 14 => done { s with cop0 := { c with epc := v } }
  | 15 => done s
  | 16 => done { s with cop0 := { c with config := maskWrite 0x0F00000F#32 c.config w } }
  | 17 => done { s with cop0 := { c with llAddr := w } }
  | 18 => done { s with cop0 := { c with watchLo := maskWrite 0xFFFFFFFB#32 c.watchLo w } }
  | 19 => done { s with cop0 := { c with watchHi := maskWrite 0x0000000F#32 c.watchHi w } }
  | 20 => done { s with cop0 := { c with xContext := maskWrite 0xFFFFFFFE00000000#64 c.xContext v } }
  | 30 => done { s with cop0 := { c with errorEpc := v } }
  | _ => .fatal .cop0Index s

/-- MFC0 (R361). -/
def execMfc0 (rt rd : Reg) (s : State) : Out :=
  (needsCop0 s ((cop0Read rd s).bind fun v t => done (t.setGpr rt (sext32 (lo32 v))))).outcome

/-- DMFC0 (R362). -/
def execDmfc0 (rt rd : Reg) (s : State) : Out :=
  (needs64 s (needsCop0 s ((cop0Read rd s).bind fun v t => done (t.setGpr rt v)))).outcome

/-- MTC0 (R363). -/
def execMtc0 (rt rd : Reg) (s : State) : Out :=
  (needsCop0 s (cop0Write rd (sext32 (lo32 (s.gpr rt))) s)).outcome

/-- DMTC0 (R364). -/
def execDmtc0 (rt rd : Reg) (s : State) : Out :=
  (needs64 s (needsCop0 s (cop0Write rd (s.gpr rt) s))).outcome

/-! ## The TLB -/

/-- The seven legal values of PageMask (R34). -/
def legalPageMask (m : Word) : Bool :=
  [0x00000000#32, 0x00006000#32, 0x0001E000#32, 0x0007E000#32, 0x001FE000#32, 0x007FE000#32, 0x01FFE000#32].contains m

/-- The TLB slot that TLBWI writes and TLBR reads: `Index & 0x1F` (R31). -/
def tlbSlot (s : State) : BitVec 5 := s.cop0.index.setWidth 5

/-- The entry TLBWI writes (R371). -/
def entryOfCop0 (c : Cop0) : TlbEntry where
  valid := true
  mask := c.pageMask &&& 0x01FFE000#32
  vpn2 := c.entryHi &&& 0xC00000FFFFFFE000#64
  asid := c.entryHi.setWidth 8
  g := c.entryLo0.getLsbD 0 && c.entryLo1.getLsbD 0
  lo0 := c.entryLo0 &&& 0x03FFFFFE#32
  lo1 := c.entryLo1 &&& 0x03FFFFFE#32

/-- COP0 after TLBR of an entry (R373). -/
def cop0OfEntry (e : TlbEntry) (c : Cop0) : Cop0 :=
  { c with
    pageMask := e.mask
    entryHi := e.vpn2 ||| e.asid.setWidth 64
    entryLo0 := e.lo0 ||| (BitVec.ofBool e.g).setWidth 32
    entryLo1 := e.lo1 ||| (BitVec.ofBool e.g).setWidth 32 }

/-- TLBWI (R371). -/
def execTlbwi (s : State) : Out :=
  (needsCop0 s
    (if legalPageMask s.cop0.pageMask then
      done { s with tlb := s.tlb.set (tlbSlot s).toNat (entryOfCop0 s.cop0) (tlbSlot s).isLt }
     else .fatal .tlbPagemask s)).outcome

/-- TLBWR: Fatal where it is usable (R372). -/
def execTlbwr (s : State) : Out :=
  (needsCop0 s (.fatal .tlbwr s : Res Unit)).outcome

/-- TLBR (R373). -/
def execTlbr (s : State) : Out :=
  (needsCop0 s (done { s with cop0 := cop0OfEntry (s.tlb[(tlbSlot s).toNat]'(tlbSlot s).isLt) s.cop0 })).outcome

/-- TLBP: the slot that matches EntryHi; on a miss P is set and the index bits are a draw (R374). -/
def execTlbp (s : State) : Out :=
  (needsCop0 s
    (match tlbHits s (lo32 s.cop0.entryHi) with
     | [] => done { s.draw.2 with cop0 := { s.cop0 with index := 0x80000000#32 ||| (s.draw.1.setWidth 6).setWidth 32 } }
     | [h] => done { s with cop0 := { s.cop0 with index := BitVec.ofNat 32 h.2 } }
     | _ => .fatal .tlbMulti s)).outcome

/-- ERET (R376). -/
def execEret (s : State) : Out :=
  (needsNoSlot s (needsCop0 s (done (returnFromException s)))).outcome

end Sys2Proof.Machine
end

