-- ==== Sys2Proof/Machine/Step.lean ====
section
/-! DEFINITION. One machine step (R60, R61): fetch, decode, exec, Count and Tick. -/

namespace Sys2Proof.Machine

/-- One machine step. A state whose Fatal mark is set has no further step (R28); a fetch fault ends the CPU step, and
Tick still follows (R63); a word that decodes to nothing is Fatal (R166). -/
def step (s : State) : Host.Outcome State Fault Refusal :=
  match s.fatal with
  | some r => .fault (.fatal r s)
  | none =>
    match fetch s with
    | .fatal r t => stopFatal r t
    | .raised t => tick Config.cyclesPerStep t
    | .ok w t =>
      match decode w with
      | .error _ => stopFatal .unknownOpcode t
      | .ok i => finishStep (exec i t)

/-- `s` with an instruction word stored where `step` fetches next; `w` is numbered as spec/opcode_table.json numbers bits. -/
def State.withFetchWord (s : State) (nbits w : Nat) : State :=
  match fetchAddress s with
  | some a => { s with mem := s.mem.writeBE a 4 ((tableWord nbits w).setWidth 64) }
  | none => s

end Sys2Proof.Machine
end

