-- ==== Sys2Proof/Machine/Boot.lean ====
section
/-! DEFINITION. Reset and the HLE boot as a function of the launch (R480 to R485). A value the spec leaves unspecified is an input
of the launch; `State.reset` is the launch of the model's named values. -/

namespace Sys2Proof.Machine

/-- The boot-chip variants the spec tells apart (R482). -/
inductive Cic where
  | cic6102or7101
  | other
  deriving DecidableEq, Repr

/-- A launch (R480, R506): the inputs the host supplies, and a value for everything the spec leaves unspecified. -/
structure Launch where
  inputs      : Inputs
  cic         : Cic
  /-- BOOT_GPR(CIC), the entries the spec leaves OPEN. -/
  bootGpr     : List (Reg × Dword)
  prevPc      : Dword
  /-- Every COP0 value of R480 that is unspecified; the specified ones are not read. -/
  cop0        : Cop0
  fcr31       : Word
  fgrs        : Vector Dword 32
  /-- The bytes of RDRAM, SP_IMEM and PIF_RAM, and of SP_DMEM beyond CART_LEN. -/
  mem         : Memory
  /-- The MI_MODE state; `intr` and `mask` are not read. -/
  mi          : Mi
  /-- The VI registers; `line` is not read. -/
  vi          : Vi
  piDramAddr  : BitVec 24
  piCartAddr  : Word
  dev         : DevState
  draws       : Nat
  deriving DecidableEq, Repr

/-- COP0 after reset: the specified values of R480, the others from the launch within their layouts (R29, R31 to R46). -/
def bootCop0 (c : Cop0) : Cop0 where
  index := c.index &&& 0x8000003F#32
  entryLo0 := c.entryLo0 &&& 0x03FFFFFF#32
  entryLo1 := c.entryLo1 &&& 0x03FFFFFF#32
  context := c.context &&& 0xFFFFFFFFFFFFFFF0#64
  pageMask := c.pageMask &&& 0x01FFE000#32
  wired := 0#32
  badVAddr := c.badVAddr
  count := c.count
  entryHi := c.entryHi &&& 0xC00000FFFFFFE0FF#64
  compare := c.compare
  status := 0x34000000#32
  cause := c.cause &&& 0xB000007C#32
  epc := c.epc
  config := Config.configReset
  llAddr := c.llAddr
  watchLo := c.watchLo &&& 0xFFFFFFFB#32
  watchHi := c.watchHi &&& 0x0000000F#32
  xContext := c.xContext &&& 0xFFFFFFFFFFFFFFF0#64
  errorEpc := c.errorEpc

/-- `SP_DMEM[i] <- CART[i]` for the first `n` bytes, those the cartridge has (R481). -/
def copyBootCode (cart : List Byte) : Nat → Memory → Memory
  | 0, m => m
  | n + 1, m =>
    match cart[n]? with
    | some b => (copyBootCode cart n m).write (0x04000000 + n) b
    | none => copyBootCode cart n m

/-- Write a table of initial register values (R482). -/
def setBootGprs : List (Reg × Dword) → State → State
  | [], s => s
  | (r, v) :: t, s => setBootGprs t (s.setGpr r v)

/-- The boot table of a launch (R482): GPR2 is the spec's for CIC 6102/7101, the other entries are OPEN. -/
def bootTable (l : Launch) : List (Reg × Dword) :=
  match l.cic with
  | .cic6102or7101 => l.bootGpr ++ [(2#5, 0x000000000EBDA536#64)]
  | .other => l.bootGpr

/-- Reset (R480 steps 1 to 7), the boot copy (R481), the boot table (R482), the PC (R483) and the first video event (R484). -/
def hleBoot (l : Launch) : State :=
  let s : State := {
    gprs := Vector.replicate 32 0#64
    hi := 0#64
    lo := 0#64
    prevPc := l.prevPc
    pc := 0xFFFFFFFFA4000040#64
    nextPc := 0xFFFFFFFFA4000044#64
    delaySlot := false
    prevDelaySlot := false
    llbit := false
    fatal := none
    cop0 := bootCop0 l.cop0
    tlb := Vector.replicate 32 TlbEntry.reset
    fcr31 := l.fcr31 &&& 0x0183FFFF#32
    fgrs := l.fgrs
    mem := copyBootCode l.inputs.cart 4096 l.mem
    mi := { l.mi with intr := 0#6, mask := 0#6 }
    vi := { l.vi with line := 0#10 }
    pi := { dramAddr := l.piDramAddr, cartAddr := l.piCartAddr, busy := false }
    sp := { halt := true, broke := false, sstep := false, intbreak := false, sig := 0#8 }
    dev := l.dev
    now := 0
    queue := []
    nextSeq := 0
    draws := l.draws
    inputs := l.inputs
    frames := [] }
  setTimer l.inputs.viLineCycles .viLine (setBootGprs (bootTable l) s)

/-- The launch `State.reset` stands for: CIC 6102/7101, the simulator's boot table (log 5), zeros (log 1), and the inputs
of log 4. -/
def Launch.reset : Launch where
  inputs := Inputs.reset
  cic := .cic6102or7101
  bootGpr := Config.bootGpr6102
  prevPc := 0
  cop0 := Cop0.reset
  fcr31 := 0
  fgrs := Vector.replicate 32 0
  mem := []
  mi := State.reset.mi
  vi := State.reset.vi
  piDramAddr := 0
  piCartAddr := 0
  dev := []
  draws := 0

end Sys2Proof.Machine
end

