-- ==== Sys2Proof/Safety.lean ====
section
/-! DEFINITION. What counts as a safe run, in the terms claims use: the end of a run (R505), the invariant of the machine at a step
boundary, and the classes of instructions as the rules list them. -/

namespace Sys2Proof.Machine

/-! ## The end of a run (R505) -/

/-- A run ends normally in `s`: the host's STOP holds and no Fatal mark is set. STOP is an argument (log 20). -/
def endsNormally (stop : State → Bool) (s : State) : Prop := stop s = true ∧ s.fatal = none

/-- From `s`, at most `n` steps lead to a normal end. -/
def endsWithin (stop : State → Bool) : Nat → State → Prop
  | 0, s => endsNormally stop s
  | n + 1, s => endsNormally stop s ∨ ∃ t, step s = .next t ∧ endsWithin stop n t

/-! ## Modes and gates -/

/-- 64-bit instructions may execute (R167, R435): kernel mode, supervisor mode with SX = 1, user mode with UX = 1. -/
def State.enabled64 (s : State) : Prop :=
  match s.mode with
  | .kernel => True
  | .supervisor => s.cop0.status.getLsbD 6 = true
  | .user => s.cop0.status.getLsbD 5 = true

/-- COP0 instructions and CACHE are usable (R360). -/
def State.usable0 (s : State) : Prop := s.mode = .kernel ∨ s.cop0.status.getLsbD 28 = true

/-- COP1 instructions are usable (R380): Status.CU1 is 1. -/
def State.usable1 (s : State) : Prop := s.cop0.status.getLsbD 29 = true

/-- A data access passes the reverse-endian check (R116). -/
def State.endianOk (s : State) : Prop := ¬(s.mode = .user ∧ s.cop0.status.getLsbD 25 = true)

/-- FP register `r` may be used as a doubleword (R381): FR = 1, or `r` is even. -/
def State.fpDouble (s : State) (r : Reg) : Prop := s.cop0.status.getLsbD 26 = true ∨ r.toNat % 2 = 0

/-- Every access of `n` bytes from physical address `a` stands in one byte-array window (R118, R121). -/
def State.bytesAt (s : State) (a : Nat) : Prop := inByteArray s.inputs.rdram a = true

/-- The value of bytes read as one big-endian number (R117). -/
def bigEndian : List Byte → Nat
  | [] => 0
  | b :: l => b.toNat * 256 ^ l.length + bigEndian l

/-- The `n` bytes of memory from physical address `a` on. -/
def State.bytes (s : State) (a n : Nat) : List Byte := (List.range n).map fun i => s.mem.read (a + i)

/-! ## Exact results -/

/-- Bits 31:0 of a register as a signed integer (R9, R23). -/
def signedWord (v : Dword) : Int := (v.setWidth 32).toInt

/-- Bits 31:0 of a register as a natural number (R9, R23). -/
def unsignedWord (v : Dword) : Nat := v.toNat % 2 ^ 32

/-- The register value of an exact 32-bit result: the integer modulo 2^32, sign-extended from bit 31 (R9, R23). -/
def wordResult (x : Int) : Dword := BitVec.ofInt 64 (x.bmod (2 ^ 32))

/-- The register value of an exact 64-bit result: the integer modulo 2^64 (R9). -/
def dwordResult (x : Int) : Dword := BitVec.ofInt 64 x

/-- The target of a branch with this displacement (R281). -/
def branchTo (s : State) (offset : Imm) : Dword := BitVec.ofInt 64 (s.pc.toInt + offset.toInt * 4)

/-- The state after a branch that is taken (R280). -/
def State.taken (s : State) (target : Dword) : State := { s with nextPc := target, delaySlot := true }

/-- The state after a branch-likely that is not taken (R284). -/
def State.skipped (s : State) : State := { s with pc := s.nextPc, nextPc := s.nextPc + 4#64, delaySlot := false }

/-- The effective address of a load or store (R310). -/
def State.address (s : State) (base : Reg) (offset : Imm) : Dword := BitVec.ofInt 64 ((s.gpr base).toInt + offset.toInt)

/-- `stop Fatal(r)` in state `s` (R28): no effect but the mark. -/
def stops (r : FatalReason) (s : State) : Out := .fault (.fatal r { s with fatal := some r })

/-! ## The invariant of the machine -/

/-- A TLB entry holds what TLBWI can write (R34, R47, R371). -/
structure TlbEntry.Legal (e : TlbEntry) : Prop where
  mask : legalPageMask e.mask = true
  vpn2 : e.vpn2 &&& ~~~0xC00000FFFFFFE000#64 = 0#64
  lo0 : e.lo0 &&& ~~~0x03FFFFFE#32 = 0#32
  lo1 : e.lo1 &&& ~~~0x03FFFFFE#32 = 0#32

/-- The reserved bits of the COP0 registers read as the spec says (R29 to R46). -/
structure Cop0.Legal (c : Cop0) : Prop where
  index : c.index &&& ~~~0x8000003F#32 = 0#32
  entryLo0 : c.entryLo0 &&& ~~~0x03FFFFFF#32 = 0#32
  entryLo1 : c.entryLo1 &&& ~~~0x03FFFFFF#32 = 0#32
  context : c.context &&& 0xF#64 = 0#64
  pageMask : c.pageMask &&& ~~~0x01FFE000#32 = 0#32
  wired : c.wired &&& ~~~0x0000003F#32 = 0#32
  entryHi : c.entryHi &&& ~~~0xC00000FFFFFFE0FF#64 = 0#64
  /-- Bits 23, 21 (TS) and 19 of Status read 0 (R40). -/
  status : c.status &&& ~~~0xFF57FFFF#32 = 0#32
  /-- Cause holds BD, CE, IP7, IP2, IP1, IP0 and ExcCode only (R43, R431). -/
  cause : c.cause &&& ~~~0xB000877C#32 = 0#32
  /-- The read-only bits of Config keep their reset value (R45). -/
  config : c.config &&& ~~~0x0F00000F#32 = Config.configReset &&& ~~~0x0F00000F#32
  watchLo : c.watchLo &&& 4#32 = 0#32
  watchHi : c.watchHi &&& ~~~0xF#32 = 0#32
  xContext : c.xContext &&& 0xF#64 = 0#64

/-- What holds of every state the machine reaches, at every point of a step. -/
structure State.DataInv (s : State) : Prop where
  running : s.fatal = none
  /-- The memory is in its canonical form. -/
  memForm : s.mem.wf = true
  /-- Memory lists bytes of the byte-array windows only (R50, R118). -/
  memPlace : ∀ c ∈ s.mem, inByteArray s.inputs.rdram c.1 = true
  /-- Register 0 is never stored (R21). -/
  zero : s.gprs[0] = 0#64
  cop0 : s.cop0.Legal
  /-- Cause.IP2 follows MI_INTR and its mask (R433). -/
  ip2 : s.cop0.cause.getLsbD 10 = ((s.mi.intr &&& s.mi.mask) != 0#6)
  tlb : ∀ e ∈ s.tlb.toList, e.Legal
  /-- FCR31 has no bits outside its layout (R48). -/
  fcr31 : s.fcr31 &&& ~~~0x0183FFFF#32 = 0#32
  /-- The event queue is in (deadline, seq) order (R460, R463). -/
  queue : s.queue.Pairwise fun a b => a.before b = true
  /-- Insertion numbers are below the next one (R52). -/
  seqs : ∀ e ∈ s.queue, e.seq < s.nextSeq
  /-- Exactly one VI_LINE event is queued (R484). -/
  viLine : (s.queue.filter fun e => e.kind == .viLine).length = 1
  /-- A PI DMA is busy exactly while its completion is queued (R466, R467). -/
  piBusy : (s.queue.filter fun e => e.kind == .piDmaDone).length = if s.pi.busy then 1 else 0
  lineCycles : 1 ≤ s.inputs.viLineCycles

/-- The invariant at a step boundary: besides, no event is due (R460). -/
def State.Inv (s : State) : Prop := s.DataInv ∧ ∀ e ∈ s.queue, s.now < e.deadline

/-! ## Classes of instructions -/

/-- The instructions of 40_alu.md, MFHI and MFLO, with the register they write (R200, R263, R265). -/
def gprTarget : Instr → Option Reg
  | .add _ _ rd | .addu _ _ rd | .sub _ _ rd | .subu _ _ rd | .dadd _ _ rd | .daddu _ _ rd | .dsub _ _ rd
  | .dsubu _ _ rd | .slt _ _ rd | .sltu _ _ rd | .and _ _ rd | .or _ _ rd | .xor _ _ rd | .nor _ _ rd
  | .sll _ rd _ | .srl _ rd _ | .sra _ rd _ | .sllv _ _ rd | .srlv _ _ rd | .srav _ _ rd | .dsll _ rd _
  | .dsrl _ rd _ | .dsra _ rd _ | .dsll32 _ rd _ | .dsrl32 _ rd _ | .dsra32 _ rd _ | .dsllv _ _ rd
  | .dsrlv _ _ rd | .dsrav _ _ rd | .mfhi rd | .mflo rd => some rd
  | .addi _ rt _ | .addiu _ rt _ | .daddi _ rt _ | .daddiu _ rt _ | .slti _ rt _ | .sltiu _ rt _ | .andi _ rt _
  | .ori _ rt _ | .xori _ rt _ | .lui rt _ => some rt
  | _ => none

/-- The instructions that write HI or LO (R24). -/
def writesHiLo : Instr → Bool
  | .mult _ _ | .multu _ _ | .dmult _ _ | .dmultu _ _ | .div _ _ | .divu _ _ | .ddiv _ _ | .ddivu _ _ | .mthi _
  | .mtlo _ => true
  | _ => false

/-- The 64-bit instructions (R167). -/
def is64 : Instr → Bool
  | .dadd _ _ _ | .daddu _ _ _ | .dsub _ _ _ | .dsubu _ _ _ | .daddi _ _ _ | .daddiu _ _ _ | .dsll _ _ _
  | .dsrl _ _ _ | .dsra _ _ _ | .dsll32 _ _ _ | .dsrl32 _ _ _ | .dsra32 _ _ _ | .dsllv _ _ _ | .dsrlv _ _ _
  | .dsrav _ _ _ | .dmult _ _ | .dmultu _ _ | .ddiv _ _ | .ddivu _ _ | .ld _ _ _ | .sd _ _ _ | .ldl _ _ _
  | .ldr _ _ _ | .sdl _ _ _ | .sdr _ _ _ | .lld _ _ _ | .scd _ _ _ | .lwu _ _ _ | .dmfc0 _ _ | .dmtc0 _ _
  | .dmfc1 _ _ | .dmtc1 _ _ => true
  | _ => false

/-- The branches, the jumps and ERET (R283). -/
def isControl : Instr → Bool
  | .beq _ _ _ | .bne _ _ _ | .blez _ _ | .bgtz _ _ | .bltz _ _ | .bgez _ _ | .bltzal _ _ | .bgezal _ _
  | .beql _ _ _ | .bnel _ _ _ | .blezl _ _ | .bgtzl _ _ | .bltzl _ _ | .bgezl _ _ | .bltzall _ _ | .bgezall _ _
  | .j _ | .jal _ | .jr _ | .jalr _ _ | .bc1f _ | .bc1t _ | .bc1fl _ | .bc1tl _ | .eret => true
  | _ => false

/-- The COP0 instructions and CACHE (R360). -/
def isCop0 : Instr → Bool
  | .mfc0 _ _ | .dmfc0 _ _ | .mtc0 _ _ | .dmtc0 _ _ | .tlbr | .tlbwi | .tlbwr | .tlbp | .eret | .cache _ _ _ => true
  | _ => false

/-- The COP1 instructions (R380). -/
def isCop1 : Instr → Bool
  | .mfc1 _ _ | .dmfc1 _ _ | .cfc1 _ _ | .mtc1 _ _ | .dmtc1 _ _ | .ctc1 _ _ | .bc1f _ | .bc1t _ | .bc1fl _
  | .bc1tl _ | .lwc1 _ _ _ | .ldc1 _ _ _ | .swc1 _ _ _ | .sdc1 _ _ _ | .fpComputeS _ _ _ _
  | .fpComputeD _ _ _ _ | .fpComputeW _ _ _ _ | .fpComputeL _ _ _ _ => true
  | _ => false

/-- The memory access of a load or store (R310, R320): base, displacement, kind, and the width it translates with. -/
def accessOf : Instr → Option (Reg × Imm × Access × Width)
  | .lb base _ offset | .lbu base _ offset => some (base, offset, .load, .byte)
  | .lh base _ offset | .lhu base _ offset => some (base, offset, .load, .half)
  | .lw base _ offset | .lwu base _ offset | .ll base _ offset | .lwc1 base _ offset => some (base, offset, .load, .word)
  | .ld base _ offset | .lld base _ offset | .ldc1 base _ offset => some (base, offset, .load, .dword)
  | .lwl base _ offset | .lwr base _ offset | .ldl base _ offset | .ldr base _ offset => some (base, offset, .load, .byte)
  | .sb base _ offset => some (base, offset, .store, .byte)
  | .sh base _ offset => some (base, offset, .store, .half)
  | .sw base _ offset | .sc base _ offset | .swc1 base _ offset => some (base, offset, .store, .word)
  | .sd base _ offset | .scd base _ offset | .sdc1 base _ offset => some (base, offset, .store, .dword)
  | .swl base _ offset | .swr base _ offset | .sdl base _ offset | .sdr base _ offset => some (base, offset, .store, .byte)
  | _ => none

/-- The gates an instruction with a memory access passes before it computes its address (R311, R380, R396). -/
def gatesOpen (i : Instr) (s : State) : Prop :=
  (is64 i = true → s.enabled64) ∧ (isCop1 i = true → s.usable1) ∧
  (∀ base ft offset, i = .sdc1 base ft offset → s.fpDouble ft)

end Sys2Proof.Machine
end

