-- ==== Sys2Proof/Certificates/Slice0/Obligations.lean ====
section
/-! DEFINITION. The statements for the provers, each from a numbered rule of spec/. -/

open Sys2Proof Sys2Proof.Machine

/-! ## Encoding (30_encoding.md) -/

/-- Every instruction decodes from its own word, every operand bit kept (R161, R164, R169 to R173). -/
def Obligations.DecodeEncodeRoundTrip : Prop := ∀ i : Instr, decode (encode i) = .ok i

/-- R165: the decoder reads the bits `usedBits` names and ignores every other bit; those bits are the encoder's word. -/
def Obligations.IgnoredBitsDoNotMatter : Prop :=
  ∀ (w : Word) (i : Instr), decode w = .ok i →
    encode i = w &&& usedBits i ∧ ∀ w' : Word, w' &&& usedBits i = w &&& usedBits i → decode w' = .ok i

/-- Words written out bit by bit from the encodings of the rules named in the examples (R162, R169 to R173). -/
def Obligations.SampleWordsDecode : Prop :=
  decode 0b001001_00000_01000_0000000000000101#32 = .ok (.addiu 0#5 8#5 5#16) ∧
  decode 0b000000_01001_01000_01001_00000_100001#32 = .ok (.addu 9#5 8#5 9#5) ∧
  decode 0b000000_01000_01001_00000_00000_011011#32 = .ok (.divu 8#5 9#5) ∧
  decode 0b010101_01000_00000_0000000000000010#32 = .ok (.bnel 8#5 0#5 2#16) ∧
  decode 0b000011_00000000000000010000001101#32 = .ok (.jal 0x40D#26) ∧
  decode 0b101011_01011_01001_0000000100000000#32 = .ok (.sw 11#5 9#5 0x100#16) ∧
  decode 0b010000_00100_01000_01010_00000000000#32 = .ok (.mtc0 8#5 10#5) ∧
  decode 0b010000_1_0000000000000000000_011000#32 = .ok .eret ∧
  decode 0b110101_00100_00010_1111111111111000#32 = .ok (.ldc1 4#5 2#5 0xFFF8#16) ∧
  decode 0b010001_10000_00010_00001_00000_000000#32 = .ok (.fpComputeS 2#5 1#5 0#5 0#6)

/-- The selector values marked `*` in the maps (R169 to R173). -/
def unknownWord (w : Word) : Prop :=
  let opcode := w.toNat / 2 ^ 26
  let rs := w.toNat / 2 ^ 21 % 32
  let rt := w.toNat / 2 ^ 16 % 32
  let funct := w.toNat % 64
  opcode ∈ [0x12, 0x13, 0x1C, 0x1D, 0x1E, 0x1F, 0x32, 0x33, 0x36, 0x3A, 0x3B, 0x3E] ∨
  (opcode = 0 ∧ funct ∈ [0x01, 0x05, 0x0A, 0x0B, 0x0E, 0x15, 0x28, 0x29, 0x35, 0x37, 0x39, 0x3D]) ∨
  (opcode = 1 ∧ rt ∉ [0x00, 0x01, 0x02, 0x03, 0x08, 0x09, 0x0A, 0x0B, 0x0C, 0x0E, 0x10, 0x11, 0x12, 0x13]) ∨
  (opcode = 0x10 ∧ rs < 16 ∧ rs ∉ [0, 1, 4, 5]) ∨
  (opcode = 0x10 ∧ 16 ≤ rs ∧ funct ∉ [0x01, 0x02, 0x06, 0x08, 0x18]) ∨
  (opcode = 0x11 ∧ rs ∉ [0, 1, 2, 4, 5, 6, 8, 16, 17, 20, 21])

/-- R166: a word is no instruction exactly when the maps mark its selectors `*`, and fetching one is
Fatal(UNKNOWN_OPCODE). -/
def Obligations.UnknownWordsAreFatal : Prop :=
  (∀ w : Word, (∀ i, decode w ≠ .ok i) ↔ unknownWord w) ∧
  ∀ (s t : State) (w : Word), s.fatal = none → fetch s = .ok w t → unknownWord w →
    step s = stops .unknownOpcode t

/-! ## The step (10_state.md section 9) -/

/-- The state after parts 1 and 2 of the step (R61): the timer match and the delay-slot flags. -/
def afterFlags (s : State) : State :=
  { s with
    cop0 := { s.cop0 with
      cause := if s.cop0.count = s.cop0.compare.setWidth 33 <<< 1 then s.cop0.cause ||| 0x8000#32 else s.cop0.cause }
    prevDelaySlot := s.delaySlot
    delaySlot := false }

/-- An interrupt is pending and enabled (R430). -/
def interrupts (s : State) : Prop :=
  (∃ k, 8 ≤ k ∧ k < 16 ∧ s.cop0.cause.getLsbD k = true ∧ s.cop0.status.getLsbD k = true) ∧
  s.cop0.status.getLsbD 0 = true ∧ s.cop0.status.getLsbD 1 = false ∧ s.cop0.status.getLsbD 2 = false

/-- The end of a step whose instruction was executed (R60, R61 part 8). -/
def stepEnd (o : Out) : Out :=
  match o with
  | .next t => tick 1 { t with cop0 := { t.cop0 with count := t.cop0.count + 1#33 } }
  | .fault f => .fault f
  | .refused r => .refused r

/-- R61: with no interrupt, a step translates the PC, reads the word there, advances the PC triple, executes the
instruction the word decodes to, counts, and ticks. -/
def Obligations.StepRunsDecodedInstruction : Prop :=
  ∀ (s u : State) (pa : Word) (v : Dword) (i : Instr),
    s.fatal = none → ¬ interrupts (afterFlags s) →
    Machine.translate (afterFlags s) s.pc .fetch .word = .pa pa →
    busRead pa .word (afterFlags s) = .ok v u →
    decode (v.setWidth 32) = .ok i →
    step s = stepEnd (exec i { u with prevPc := u.pc, pc := u.nextPc, nextPc := u.nextPc + 4#64 })

/-- R62, R430: a pending interrupt is taken before the fetch, with EPC the address of the instruction not executed (or
of its branch), and the same step executes the first instruction of the handler. With Status.BEV = 1 the step is
Fatal(BEV) instead, before the entry writes anything (R413). -/
def Obligations.InterruptedStepRunsHandler : Prop :=
  ∀ (s u : State) (v : Dword) (i : Instr), s.fatal = none → interrupts (afterFlags s) →
    (s.cop0.status.getLsbD 22 = true → step s = stops .bev (afterFlags s)) ∧
    (s.cop0.status.getLsbD 22 = false →
      let e := enterException .interrupt false (afterFlags s)
      e.pc = 0xFFFFFFFF80000180#64 ∧ e.cop0.epc = (if s.delaySlot then s.pc - 4#64 else s.pc) ∧
      e.cop0.cause.getLsbD 31 = s.delaySlot ∧
      (busRead 0x180#32 .word e = .ok v u → decode (v.setWidth 32) = .ok i →
        step s = stepEnd (exec i { u with prevPc := u.pc, pc := u.nextPc, nextPc := u.nextPc + 4#64 })))

/-- R63: when the translation of the PC faults, the step enters the exception with the PC as the saved address, executes
nothing and does not count; the tick still follows. With Status.BEV = 1 the step is Fatal(BEV) instead (R413); and when the
translation itself is Fatal (R107, R109), the step stops with that reason, with no tick (R28). -/
def Obligations.FetchFaultStep : Prop :=
  ∀ s : State, s.fatal = none → ¬ interrupts (afterFlags s) →
    let fetched := Machine.translate (afterFlags s) s.pc .fetch .word
    (∀ k, fetched = .fault k → s.cop0.status.getLsbD 22 = false →
      step s = tick 1 (enterException k false (afterFlags s)) ∧
      (enterException k false (afterFlags s)).cop0.count = s.cop0.count) ∧
    (∀ k, fetched = .fault k → s.cop0.status.getLsbD 22 = true → step s = stops .bev (afterFlags s)) ∧
    (∀ r, fetched = .fatal r → step s = stops r (afterFlags s))

/-- R28: a state with the Fatal mark has no step, and a step that stops Fatal leaves the mark of its reason. -/
def Obligations.FatalStateHasNoStep : Prop :=
  (∀ s t : State, s.fatal ≠ none → step s ≠ .next t) ∧
  ∀ (s t : State) (r : FatalReason), step s = .fault (.fatal r t) → t.fatal = some r

/-- R464, R53: a step advances `now` by exactly one cycle and changes no launch input. -/
def Obligations.StepAdvancesNowKeepsInputs : Prop :=
  ∀ s t : State, step s = .next t → t.now = s.now + 1 ∧ t.inputs = s.inputs

/-! ## General registers (R20, R21) -/

/-- R21: register 0 reads zero, a write to it is discarded, and a write to another register changes that one only. -/
def Obligations.RegisterZero : Prop :=
  ∀ (s : State) (r q : Reg) (v : Dword),
    s.gpr 0#5 = 0#64 ∧ s.setGpr 0#5 v = s ∧
    (s.setGpr r v).gpr q = (if q = 0#5 then 0#64 else if q = r then v else s.gpr q) ∧
    s.setGpr r v = { s with gprs := (s.setGpr r v).gprs }

/-! ## Integer arithmetic, logic, shifts and set (40_alu.md) -/

/-- R203 to R208: word add and subtract, the exact sum modulo 2^32, sign-extended, with no overflow trap. -/
def Obligations.WordAddAndSubtract : Prop :=
  ∀ (s : State) (rs rt rd : Reg) (imm : Imm),
    exec (.add rs rt rd) s = .next (s.setGpr rd (wordResult (signedWord (s.gpr rs) + signedWord (s.gpr rt)))) ∧
    exec (.addu rs rt rd) s = .next (s.setGpr rd (wordResult (signedWord (s.gpr rs) + signedWord (s.gpr rt)))) ∧
    exec (.sub rs rt rd) s = .next (s.setGpr rd (wordResult (signedWord (s.gpr rs) - signedWord (s.gpr rt)))) ∧
    exec (.subu rs rt rd) s = .next (s.setGpr rd (wordResult (signedWord (s.gpr rs) - signedWord (s.gpr rt)))) ∧
    exec (.addi rs rt imm) s = .next (s.setGpr rt (wordResult (signedWord (s.gpr rs) + imm.toInt))) ∧
    exec (.addiu rs rt imm) s = .next (s.setGpr rt (wordResult (signedWord (s.gpr rs) + imm.toInt)))

/-- R209 to R214: doubleword add and subtract modulo 2^64, with no overflow trap. -/
def Obligations.DwordAddAndSubtract : Prop :=
  ∀ (s : State) (rs rt rd : Reg) (imm : Imm), s.enabled64 →
    exec (.dadd rs rt rd) s = .next (s.setGpr rd (dwordResult ((s.gpr rs).toInt + (s.gpr rt).toInt))) ∧
    exec (.daddu rs rt rd) s = .next (s.setGpr rd (dwordResult ((s.gpr rs).toInt + (s.gpr rt).toInt))) ∧
    exec (.dsub rs rt rd) s = .next (s.setGpr rd (dwordResult ((s.gpr rs).toInt - (s.gpr rt).toInt))) ∧
    exec (.dsubu rs rt rd) s = .next (s.setGpr rd (dwordResult ((s.gpr rs).toInt - (s.gpr rt).toInt))) ∧
    exec (.daddi rs rt imm) s = .next (s.setGpr rt (dwordResult ((s.gpr rs).toInt + imm.toInt))) ∧
    exec (.daddiu rs rt imm) s = .next (s.setGpr rt (dwordResult ((s.gpr rs).toInt + imm.toInt)))

/-- R215 to R218: set on less than, signed or unsigned over all 64 bits, the immediate sign-extended first. -/
def Obligations.SetOnLessThan : Prop :=
  ∀ (s : State) (rs rt rd : Reg) (imm : Imm),
    exec (.slt rs rt rd) s = .next (s.setGpr rd (if (s.gpr rs).toInt < (s.gpr rt).toInt then 1#64 else 0#64)) ∧
    exec (.sltu rs rt rd) s = .next (s.setGpr rd (if (s.gpr rs).toNat < (s.gpr rt).toNat then 1#64 else 0#64)) ∧
    exec (.slti rs rt imm) s = .next (s.setGpr rt (if (s.gpr rs).toInt < imm.toInt then 1#64 else 0#64)) ∧
    exec (.sltiu rs rt imm) s =
      .next (s.setGpr rt (if (s.gpr rs).toNat < (dwordResult imm.toInt).toNat then 1#64 else 0#64))

/-- R219 to R226: the logical operations bit by bit, the immediate zero-extended, and LUI. -/
def Obligations.LogicalOperations : Prop :=
  ∀ (s : State) (rs rt rd : Reg) (imm : Imm),
    (∃ v, exec (.and rs rt rd) s = .next (s.setGpr rd v) ∧
      ∀ k < 64, v.getLsbD k = ((s.gpr rs).getLsbD k && (s.gpr rt).getLsbD k)) ∧
    (∃ v, exec (.or rs rt rd) s = .next (s.setGpr rd v) ∧
      ∀ k < 64, v.getLsbD k = ((s.gpr rs).getLsbD k || (s.gpr rt).getLsbD k)) ∧
    (∃ v, exec (.xor rs rt rd) s = .next (s.setGpr rd v) ∧
      ∀ k < 64, v.getLsbD k = ((s.gpr rs).getLsbD k != (s.gpr rt).getLsbD k)) ∧
    (∃ v, exec (.nor rs rt rd) s = .next (s.setGpr rd v) ∧
      ∀ k < 64, v.getLsbD k = !((s.gpr rs).getLsbD k || (s.gpr rt).getLsbD k)) ∧
    (∃ v, exec (.andi rs rt imm) s = .next (s.setGpr rt v) ∧
      ∀ k < 64, v.getLsbD k = ((s.gpr rs).getLsbD k && decide (k < 16) && imm.getLsbD k)) ∧
    (∃ v, exec (.ori rs rt imm) s = .next (s.setGpr rt v) ∧
      ∀ k < 64, v.getLsbD k = ((s.gpr rs).getLsbD k || (decide (k < 16) && imm.getLsbD k))) ∧
    (∃ v, exec (.xori rs rt imm) s = .next (s.setGpr rt v) ∧
      ∀ k < 64, v.getLsbD k = ((s.gpr rs).getLsbD k != (decide (k < 16) && imm.getLsbD k))) ∧
    exec (.lui rt imm) s = .next (s.setGpr rt (wordResult (imm.toInt * 65536)))

/-- R227 to R232: word shifts of bits 31:0 by `sa` or by bits 4:0 of `rs`, the result sign-extended. -/
def Obligations.WordShifts : Prop :=
  ∀ (s : State) (rs rt rd : Reg) (sa : BitVec 5),
    let x := unsignedWord (s.gpr rt)
    let y := signedWord (s.gpr rt)
    let n := (s.gpr rs).toNat % 32
    exec (.sll rt rd sa) s = .next (s.setGpr rd (wordResult (x * 2 ^ sa.toNat))) ∧
    exec (.srl rt rd sa) s = .next (s.setGpr rd (wordResult ((x / 2 ^ sa.toNat : Nat) : Int))) ∧
    exec (.sra rt rd sa) s = .next (s.setGpr rd (wordResult (y / 2 ^ sa.toNat))) ∧
    exec (.sllv rs rt rd) s = .next (s.setGpr rd (wordResult (x * 2 ^ n))) ∧
    exec (.srlv rs rt rd) s = .next (s.setGpr rd (wordResult ((x / 2 ^ n : Nat) : Int))) ∧
    exec (.srav rs rt rd) s = .next (s.setGpr rd (wordResult (y / 2 ^ n)))

/-- R233 to R241: doubleword shifts by `sa`, `sa + 32` or bits 5:0 of `rs`. -/
def Obligations.DwordShifts : Prop :=
  ∀ (s : State) (rs rt rd : Reg) (sa : BitVec 5), s.enabled64 →
    let x := (s.gpr rt).toNat
    let y := (s.gpr rt).toInt
    let n := (s.gpr rs).toNat % 64
    exec (.dsll rt rd sa) s = .next (s.setGpr rd (dwordResult (x * 2 ^ sa.toNat))) ∧
    exec (.dsrl rt rd sa) s = .next (s.setGpr rd (dwordResult ((x / 2 ^ sa.toNat : Nat) : Int))) ∧
    exec (.dsra rt rd sa) s = .next (s.setGpr rd (dwordResult (y / 2 ^ sa.toNat))) ∧
    exec (.dsll32 rt rd sa) s = .next (s.setGpr rd (dwordResult (x * 2 ^ (sa.toNat + 32)))) ∧
    exec (.dsrl32 rt rd sa) s = .next (s.setGpr rd (dwordResult ((x / 2 ^ (sa.toNat + 32) : Nat) : Int))) ∧
    exec (.dsra32 rt rd sa) s = .next (s.setGpr rd (dwordResult (y / 2 ^ (sa.toNat + 32)))) ∧
    exec (.dsllv rs rt rd) s = .next (s.setGpr rd (dwordResult (x * 2 ^ n))) ∧
    exec (.dsrlv rs rt rd) s = .next (s.setGpr rd (dwordResult ((x / 2 ^ n : Nat) : Int))) ∧
    exec (.dsrav rs rt rd) s = .next (s.setGpr rd (dwordResult (y / 2 ^ n)))

/-! ## Multiply, divide, HI and LO (41_muldiv.md) -/

/-- R267 to R270: the exact product, its halves in HI and LO: sign-extended words, or the halves of 128 bits. -/
def Obligations.Multiply : Prop :=
  ∀ (s : State) (rs rt : Reg),
    (let p := signedWord (s.gpr rs) * signedWord (s.gpr rt)
     exec (.mult rs rt) s = .next { s with hi := wordResult (p / 2 ^ 32), lo := wordResult p }) ∧
    (let p := unsignedWord (s.gpr rs) * unsignedWord (s.gpr rt)
     exec (.multu rs rt) s = .next { s with hi := wordResult ((p / 2 ^ 32 : Nat) : Int), lo := wordResult p }) ∧
    (s.enabled64 →
      (let p := (s.gpr rs).toInt * (s.gpr rt).toInt
       exec (.dmult rs rt) s = .next { s with hi := dwordResult (p / 2 ^ 64), lo := dwordResult p }) ∧
      (let p := (s.gpr rs).toNat * (s.gpr rt).toNat
       exec (.dmultu rs rt) s = .next { s with hi := dwordResult ((p / 2 ^ 64 : Nat) : Int), lo := dwordResult p }))

/-- R271, R272: DIV and DIVU truncate toward zero, quotient in LO and remainder in HI, and never trap: a zero divisor and
-2^31 / -1 give the stated values. -/
def Obligations.DivideWord : Prop :=
  ∀ (s : State) (rs rt : Reg),
    (let a := signedWord (s.gpr rs)
     let b := signedWord (s.gpr rt)
     (b = 0 → exec (.div rs rt) s =
       .next { s with lo := if 0 ≤ a then 0xFFFFFFFFFFFFFFFF#64 else 1#64, hi := wordResult a }) ∧
     (a = -2147483648 → b = -1 → exec (.div rs rt) s = .next { s with lo := 0xFFFFFFFF80000000#64, hi := 0#64 }) ∧
     (b ≠ 0 → ¬(a = -2147483648 ∧ b = -1) →
       exec (.div rs rt) s = .next { s with lo := wordResult (a.tdiv b), hi := wordResult (a - b * a.tdiv b) })) ∧
    (let a := unsignedWord (s.gpr rs)
     let b := unsignedWord (s.gpr rt)
     (b = 0 → exec (.divu rs rt) s = .next { s with lo := 0xFFFFFFFFFFFFFFFF#64, hi := wordResult a }) ∧
     (b ≠ 0 → exec (.divu rs rt) s =
       .next { s with lo := wordResult ((a / b : Nat) : Int), hi := wordResult ((a % b : Nat) : Int) }))

/-- R276, R277: DDIV and DDIVU; a zero divisor, and -2^63 / -1 of DDIV, are Fatal(DDIV_EDGE) with HI and LO unchanged. -/
def Obligations.DivideDword : Prop :=
  ∀ (s : State) (rs rt : Reg), s.enabled64 →
    (let a := (s.gpr rs).toInt
     let b := (s.gpr rt).toInt
     ((b = 0 ∨ (a = -2 ^ 63 ∧ b = -1)) → exec (.ddiv rs rt) s = stops .ddivEdge s) ∧
     (b ≠ 0 → ¬(a = -2 ^ 63 ∧ b = -1) →
       exec (.ddiv rs rt) s = .next { s with lo := dwordResult (a.tdiv b), hi := dwordResult (a - b * a.tdiv b) })) ∧
    (let a := (s.gpr rs).toNat
     let b := (s.gpr rt).toNat
     (b = 0 → exec (.ddivu rs rt) s = stops .ddivEdge s) ∧
     (b ≠ 0 → exec (.ddivu rs rt) s =
       .next { s with lo := dwordResult ((a / b : Nat) : Int), hi := dwordResult ((a % b : Nat) : Int) }))

/-- R263 to R266: the moves read and write all 64 bits of HI and LO. -/
def Obligations.HiLoMoves : Prop :=
  ∀ (s : State) (r : Reg),
    exec (.mfhi r) s = .next (s.setGpr r s.hi) ∧ exec (.mflo r) s = .next (s.setGpr r s.lo) ∧
    exec (.mthi r) s = .next { s with hi := s.gpr r } ∧ exec (.mtlo r) s = .next { s with lo := s.gpr r }

/-- R167: in user mode with UX = 0, or supervisor mode with SX = 0, each of the 32 64-bit instructions is
Fatal(MODE64_GATE) before any other effect. -/
def Obligations.Gate64IsFatal : Prop :=
  ∀ (i : Instr) (s : State), is64 i = true → ¬ s.enabled64 → exec i s = stops .mode64Gate s

/-- The frame of 40_alu.md and 41_muldiv.md (R21, R24, R200): an instruction that writes a general register changes that
register only, and one that writes HI or LO changes those only; every byte of memory reads as before. -/
def Obligations.RegisterInstructionFrame : Prop :=
  (∀ (i : Instr) (r : Reg) (s t : State), gprTarget i = some r → exec i s = .next t →
    (∀ q, q ≠ r → t.gpr q = s.gpr q) ∧ t = { s with gprs := t.gprs } ∧ ∀ a, t.mem.read a = s.mem.read a) ∧
  (∀ (i : Instr) (s t : State), writesHiLo i = true → exec i s = .next t →
    t = { s with hi := t.hi, lo := t.lo } ∧ ∀ a, t.mem.read a = s.mem.read a) ∧
  (∀ (r : Reg) (s t : State), exec (.mthi r) s = .next t → t.lo = s.lo) ∧
  (∀ (r : Reg) (s t : State), exec (.mtlo r) s = .next t → t.hi = s.hi)

/-! ## Branches and jumps (42_branch.md) -/

/-- R280, R281, R287 to R292: outside a delay slot, an ordinary branch redirects `next_pc` and marks the delay slot when
its 64-bit condition holds, and changes nothing when it does not. -/
def Obligations.OrdinaryBranches : Prop :=
  ∀ (s : State) (rs rt : Reg) (offset : Imm), s.prevDelaySlot = false →
    let x := (s.gpr rs).toInt
    exec (.beq rs rt offset) s = .next (if s.gpr rs = s.gpr rt then s.taken (branchTo s offset) else s) ∧
    exec (.bne rs rt offset) s = .next (if s.gpr rs ≠ s.gpr rt then s.taken (branchTo s offset) else s) ∧
    exec (.blez rs offset) s = .next (if x ≤ 0 then s.taken (branchTo s offset) else s) ∧
    exec (.bgtz rs offset) s = .next (if 0 < x then s.taken (branchTo s offset) else s) ∧
    exec (.bltz rs offset) s = .next (if x < 0 then s.taken (branchTo s offset) else s) ∧
    exec (.bgez rs offset) s = .next (if 0 ≤ x then s.taken (branchTo s offset) else s)

/-- R280, R284, R295 to R300: a branch-likely that is not taken skips the delay slot: the next fetch is at the old
`next_pc`, and the delay-slot flag stays false. -/
def Obligations.LikelyBranches : Prop :=
  ∀ (s : State) (rs rt : Reg) (offset : Imm), s.prevDelaySlot = false →
    let x := (s.gpr rs).toInt
    exec (.beql rs rt offset) s = .next (if s.gpr rs = s.gpr rt then s.taken (branchTo s offset) else s.skipped) ∧
    exec (.bnel rs rt offset) s = .next (if s.gpr rs ≠ s.gpr rt then s.taken (branchTo s offset) else s.skipped) ∧
    exec (.blezl rs offset) s = .next (if x ≤ 0 then s.taken (branchTo s offset) else s.skipped) ∧
    exec (.bgtzl rs offset) s = .next (if 0 < x then s.taken (branchTo s offset) else s.skipped) ∧
    exec (.bltzl rs offset) s = .next (if x < 0 then s.taken (branchTo s offset) else s.skipped) ∧
    exec (.bgezl rs offset) s = .next (if 0 ≤ x then s.taken (branchTo s offset) else s.skipped)

/-- R285, R293, R294, R301, R302: a linking branch tests the old register, and writes the address after its delay slot to
register 31 whether or not it is taken. -/
def Obligations.LinkingBranches : Prop :=
  ∀ (s : State) (rs : Reg) (offset : Imm), s.prevDelaySlot = false →
    let x := (s.gpr rs).toInt
    let l := s.setGpr 31#5 (s.prevPc + 8#64)
    exec (.bltzal rs offset) s = .next (if x < 0 then l.taken (branchTo s offset) else l) ∧
    exec (.bgezal rs offset) s = .next (if 0 ≤ x then l.taken (branchTo s offset) else l) ∧
    exec (.bltzall rs offset) s = .next (if x < 0 then l.taken (branchTo s offset) else l.skipped) ∧
    exec (.bgezall rs offset) s = .next (if 0 ≤ x then l.taken (branchTo s offset) else l.skipped)

/-- R282, R303 to R306: a jump goes to the index in the 256 MiB region of its delay slot, or to a register read before
the link is written; JAL links register 31, JALR its `rd`. -/
def Obligations.Jumps : Prop :=
  ∀ (s : State) (rs rd : Reg) (index : BitVec 26), s.prevDelaySlot = false →
    let region := BitVec.ofNat 64 (s.pc.toNat / 2 ^ 28 * 2 ^ 28 + index.toNat * 4)
    exec (.j index) s = .next (s.taken region) ∧
    exec (.jal index) s = .next ((s.setGpr 31#5 (s.prevPc + 8#64)).taken region) ∧
    exec (.jr rs) s = .next (s.taken (s.gpr rs)) ∧
    exec (.jalr rs rd) s = .next ((s.setGpr rd (s.prevPc + 8#64)).taken (s.gpr rs))

/-- R389 to R392: the FP-condition branches test bit C of FCR31, once COP1 is usable. -/
def Obligations.FpConditionBranches : Prop :=
  ∀ (s : State) (offset : Imm), s.prevDelaySlot = false → s.usable1 →
    let c := s.fcr31.getLsbD 23
    exec (.bc1f offset) s = .next (if c = false then s.taken (branchTo s offset) else s) ∧
    exec (.bc1t offset) s = .next (if c = true then s.taken (branchTo s offset) else s) ∧
    exec (.bc1fl offset) s = .next (if c = false then s.taken (branchTo s offset) else s.skipped) ∧
    exec (.bc1tl offset) s = .next (if c = true then s.taken (branchTo s offset) else s.skipped)

/-- R283: a branch, jump or ERET in the delay slot of a taken branch is Fatal(BRANCH_IN_DELAY_SLOT), whatever its condition
and before every other check. -/
def Obligations.BranchInDelaySlotIsFatal : Prop :=
  ∀ (i : Instr) (s : State), isControl i = true → s.prevDelaySlot = true → exec i s = stops .branchInDelaySlot s

/-! ## Loads and stores (43_loadstore.md) -/

/-- R310 to R319: an aligned load translates its address, reads the bus, and writes the destination with the value read,
sign- or zero-extended. The state after the read is `t`: a register window may change on a read. -/
def Obligations.AlignedLoads : Prop :=
  ∀ (s t : State) (base rt : Reg) (offset : Imm) (pa : Word) (v : Dword), s.endianOk →
    let va := s.address base offset
    (Machine.translate s va .load .byte = .pa pa → busRead pa .byte s = .ok v t →
      exec (.lb base rt offset) s = .next (t.setGpr rt (BitVec.ofInt 64 ((v.toNat : Int).bmod (2 ^ 8)))) ∧
      exec (.lbu base rt offset) s = .next (t.setGpr rt (BitVec.ofNat 64 (v.toNat % 2 ^ 8)))) ∧
    (Machine.translate s va .load .half = .pa pa → busRead pa .half s = .ok v t →
      exec (.lh base rt offset) s = .next (t.setGpr rt (BitVec.ofInt 64 ((v.toNat : Int).bmod (2 ^ 16)))) ∧
      exec (.lhu base rt offset) s = .next (t.setGpr rt (BitVec.ofNat 64 (v.toNat % 2 ^ 16)))) ∧
    (Machine.translate s va .load .word = .pa pa → busRead pa .word s = .ok v t →
      exec (.lw base rt offset) s = .next (t.setGpr rt (BitVec.ofInt 64 ((v.toNat : Int).bmod (2 ^ 32)))) ∧
      (s.enabled64 → exec (.lwu base rt offset) s = .next (t.setGpr rt (BitVec.ofNat 64 (v.toNat % 2 ^ 32))))) ∧
    (Machine.translate s va .load .dword = .pa pa → busRead pa .dword s = .ok v t → s.enabled64 →
      exec (.ld base rt offset) s = .next (t.setGpr rt v))

/-- R320, R322 to R325: LWL and LDL put the bytes of the aligned container from the address to its end into the high bytes
of the register, LWR and LDR those from its start to the address into the low ones; the other bytes are the register's. A
word result is sign-extended. Byte 0 of a container is the most significant; `v` is the container as the bus reads it. -/
def Obligations.PartialLoads : Prop :=
  ∀ (s t : State) (base rt : Reg) (offset : Imm) (pa : Word) (v : Dword), s.endianOk →
    Machine.translate s (s.address base offset) .load .byte = .pa pa →
    let k := (s.address base offset).toNat % 4
    let d := (s.address base offset).toNat % 8
    let r := s.gpr rt
    (busRead (BitVec.ofNat 32 (pa.toNat / 4 * 4)) .word s = .ok v t →
      (∃ m : Word, exec (.lwl base rt offset) s = .next (t.setGpr rt (m.signExtend 64)) ∧
        ∀ p < 4, m.extractLsb' (8 * (3 - p)) 8 =
          if p + k < 4 then v.extractLsb' (8 * (3 - (p + k))) 8 else r.extractLsb' (8 * (3 - p)) 8) ∧
      (∃ m : Word, exec (.lwr base rt offset) s = .next (t.setGpr rt (m.signExtend 64)) ∧
        ∀ p < 4, m.extractLsb' (8 * (3 - p)) 8 =
          if 3 ≤ p + k then v.extractLsb' (8 * (3 - (p + k - 3))) 8 else r.extractLsb' (8 * (3 - p)) 8)) ∧
    (busRead (BitVec.ofNat 32 (pa.toNat / 8 * 8)) .dword s = .ok v t → s.enabled64 →
      (∃ m : Dword, exec (.ldl base rt offset) s = .next (t.setGpr rt m) ∧
        ∀ p < 8, m.extractLsb' (8 * (7 - p)) 8 =
          if p + d < 8 then v.extractLsb' (8 * (7 - (p + d))) 8 else r.extractLsb' (8 * (7 - p)) 8) ∧
      (∃ m : Dword, exec (.ldr base rt offset) s = .next (t.setGpr rt m) ∧
        ∀ p < 8, m.extractLsb' (8 * (7 - p)) 8 =
          if 7 ≤ p + d then v.extractLsb' (8 * (7 - (p + d - 7))) 8 else r.extractLsb' (8 * (7 - p)) 8))

/-- The memory of `t` is that of `s` with the `n` low bytes of `v` stored from address `a` on, the most significant first:
every byte outside reads as before. -/
def storedAt (s t : State) (a n : Nat) (v : Dword) : Prop :=
  ∀ x, t.mem.read x = if a ≤ x ∧ x < a + n then v.extractLsb' (8 * (a + n - 1 - x)) 8 else s.mem.read x

/-- R310, R326 to R329: an aligned store translates its address as a store and writes the bus; in a byte-array window it
stores the low bytes of the register at the physical address and changes nothing else. (A store that covers the last
byte of PIF RAM has the effect of BusWrites besides.) -/
def Obligations.AlignedStores : Prop :=
  ∀ (s t : State) (base rt : Reg) (offset : Imm) (pa : Word), s.endianOk →
    let va := s.address base offset
    let v := s.gpr rt
    let writes (w : Width) : Prop := Machine.translate s va .store w = .pa pa ∧ busWrite pa w v s = .ok () t
    let memory (w : Width) : Prop :=
      Machine.translate s va .store w = .pa pa ∧ s.mem.wf = true ∧ s.bytesAt pa.toNat ∧
        ¬(pa.toNat ≤ 0x1FC007FF ∧ 0x1FC007FF < pa.toNat + w.bytes)
    let stored (i : Instr) (w : Width) : Prop :=
      ∃ u, exec i s = .next u ∧ u = { s with mem := u.mem } ∧ storedAt s u pa.toNat w.bytes v
    (writes .byte → exec (.sb base rt offset) s = .next t) ∧ (memory .byte → stored (.sb base rt offset) .byte) ∧
    (writes .half → exec (.sh base rt offset) s = .next t) ∧ (memory .half → stored (.sh base rt offset) .half) ∧
    (writes .word → exec (.sw base rt offset) s = .next t) ∧ (memory .word → stored (.sw base rt offset) .word) ∧
    (s.enabled64 → writes .dword → exec (.sd base rt offset) s = .next t) ∧
    (s.enabled64 → memory .dword → stored (.sd base rt offset) .dword)

/-- R321, R334 to R337: SWL and SDL put the high bytes of the register from the address to the end of its container, SWR and
SDR the low bytes from the start of the container to the address: the container is read, merged and written back. In a
byte-array window every other byte of memory reads as before. (A container that holds the last byte of PIF RAM has the
effect of BusWrites besides. That a word container of a register window is read and written is R321's text; ruling D46 has
such a store Fatal: log 22.) -/
def Obligations.PartialStores : Prop :=
  ∀ (s t u : State) (base rt : Reg) (offset : Imm) (pa : Word) (old new : Dword), s.endianOk →
    Machine.translate s (s.address base offset) .store .byte = .pa pa →
    let k := (s.address base offset).toNat % 4
    let d := (s.address base offset).toNat % 8
    let v := s.gpr rt
    let word := BitVec.ofNat 32 (pa.toNat / 4 * 4)
    let dword := BitVec.ofNat 32 (pa.toNat / 8 * 8)
    let inMemory (n : Nat) : Prop := s.mem.wf = true ∧ s.bytesAt pa.toNat ∧ pa.toNat / n ≠ 0x1FC007FF / n
    let stored (i : Instr) (a n : Nat) (x : Dword) : Prop :=
      ∃ u, exec i s = .next u ∧ u = { s with mem := u.mem } ∧ storedAt s u a n x
    (busRead word .word s = .ok old t → busWrite word .word new t = .ok () u →
      ((∀ p < 4, new.extractLsb' (8 * (3 - p)) 8 =
          if k ≤ p then v.extractLsb' (8 * (3 - (p - k))) 8 else old.extractLsb' (8 * (3 - p)) 8) →
        exec (.swl base rt offset) s = .next u) ∧
      ((∀ p < 4, new.extractLsb' (8 * (3 - p)) 8 =
          if p ≤ k then v.extractLsb' (8 * (k - p)) 8 else old.extractLsb' (8 * (3 - p)) 8) →
        exec (.swr base rt offset) s = .next u)) ∧
    (inMemory 4 →
      stored (.swl base rt offset) pa.toNat (4 - k) ((v.setWidth 32 >>> (8 * k)).setWidth 64) ∧
      stored (.swr base rt offset) (pa.toNat - k) (k + 1) v) ∧
    (s.enabled64 → busRead dword .dword s = .ok old t → busWrite dword .dword new t = .ok () u →
      ((∀ p < 8, new.extractLsb' (8 * (7 - p)) 8 =
          if d ≤ p then v.extractLsb' (8 * (7 - (p - d))) 8 else old.extractLsb' (8 * (7 - p)) 8) →
        exec (.sdl base rt offset) s = .next u) ∧
      ((∀ p < 8, new.extractLsb' (8 * (7 - p)) 8 =
          if p ≤ d then v.extractLsb' (8 * (d - p)) 8 else old.extractLsb' (8 * (7 - p)) 8) →
        exec (.sdr base rt offset) s = .next u)) ∧
    (s.enabled64 → inMemory 8 →
      stored (.sdl base rt offset) pa.toNat (8 - d) (v >>> (8 * d)) ∧
      stored (.sdr base rt offset) (pa.toNat - d) (d + 1) v)

/-- R330, R331: LL and LLD load as LW and LD do, set the link bit and write LLAddr with the physical address shifted right
by 4. R332, R333: SC and SCD translate whatever the link bit is; with it set they store and write 1, without it they make
no bus access and write 0; the link bit stays. -/
def Obligations.LinkedAccess : Prop :=
  ∀ (s t : State) (base rt : Reg) (offset : Imm) (pa : Word) (v : Dword), s.endianOk →
    let va := s.address base offset
    let linked (u : State) (x : Dword) : State :=
      { u.setGpr rt x with llbit := true, cop0 := { u.cop0 with llAddr := BitVec.ofNat 32 (pa.toNat / 16) } }
    (Machine.translate s va .load .word = .pa pa → busRead pa .word s = .ok v t →
      exec (.ll base rt offset) s = .next (linked t (BitVec.ofInt 64 ((v.toNat : Int).bmod (2 ^ 32))))) ∧
    (s.enabled64 → Machine.translate s va .load .dword = .pa pa → busRead pa .dword s = .ok v t →
      exec (.lld base rt offset) s = .next (linked t v)) ∧
    (s.llbit = true → Machine.translate s va .store .word = .pa pa → busWrite pa .word (s.gpr rt) s = .ok () t →
      exec (.sc base rt offset) s = .next (t.setGpr rt 1#64) ∧ t.llbit = true) ∧
    (s.llbit = false → Machine.translate s va .store .word = .pa pa →
      exec (.sc base rt offset) s = .next (s.setGpr rt 0#64)) ∧
    (s.enabled64 → s.llbit = true → Machine.translate s va .store .dword = .pa pa →
      busWrite pa .dword (s.gpr rt) s = .ok () t →
      exec (.scd base rt offset) s = .next (t.setGpr rt 1#64) ∧ t.llbit = true) ∧
    (s.enabled64 → s.llbit = false → Machine.translate s va .store .dword = .pa pa →
      exec (.scd base rt offset) s = .next (s.setGpr rt 0#64))

/-- R115, R116, R311: once its gates are open, a load or store whose address does not translate takes the exception of the
fault (Fatal(BEV) while Status.BEV is 1), or stops with the Fatal reason of the translation; a user-mode access with
Status.RE = 1 is Fatal(REVERSE_ENDIAN) before that. Nothing else is written. -/
def Obligations.DataFaults : Prop :=
  ∀ (i : Instr) (s : State) (base : Reg) (offset : Imm) (acc : Access) (w : Width),
    accessOf i = some (base, offset, acc, w) → gatesOpen i s →
    let va := s.address base offset
    (¬ s.endianOk → exec i s = stops .reverseEndian s) ∧
    (∀ k, s.endianOk → Machine.translate s va acc w = .fault k →
      exec i s = if s.cop0.status.getLsbD 22 then stops .bev s else .next (enterException k true s)) ∧
    (∀ r, s.endianOk → Machine.translate s va acc w = .fatal r → exec i s = stops r s)

/-! ## Modes and translation (20_memory.md) -/

/-- R101 to R107, R114: alignment first, then the 32-bit subset, then the segments with the modes that may use them: kuseg
through the TLB (unmapped while ERL = 1), kseg0 and kseg1 direct for the kernel, ksseg and kseg3 through the TLB. The mode and its 64-bit
addressing flag are those R42 derives from Status: KSU is bits 4:3, and both 2 and 3 are user. -/
def Obligations.TranslateSegments : Prop :=
  ∀ (s : State) (va : Dword) (acc : Access) (w : Width),
    let x := va.toNat
    let go := Machine.translate s va acc w
    let err := Xlate.fault (if acc = .store then .addressErrorStore va else .addressErrorLoad va)
    let st := s.cop0.status
    let ksu := st.toNat / 8 % 4
    let privileged := st.getLsbD 2 = true ∨ st.getLsbD 1 = true ∨ ksu = 0
    (privileged → s.mode = .kernel ∧ s.ext = st.getLsbD 7) ∧
    (¬ privileged → ksu = 1 → s.mode = .supervisor ∧ s.ext = st.getLsbD 6) ∧
    (¬ privileged → ksu = 2 ∨ ksu = 3 → s.mode = .user ∧ s.ext = st.getLsbD 5) ∧
    (x % w.bytes ≠ 0 → go = err) ∧
    (x % w.bytes = 0 →
      (0x80000000 ≤ x → x < 0xFFFFFFFF80000000 → go = if s.ext then .fatal .xaddr else err) ∧
      (x < 0x80000000 →
        go = if s.cop0.status.getLsbD 2 then .pa (BitVec.ofNat 32 x) else tlbTranslate s va acc) ∧
      (0xFFFFFFFF80000000 ≤ x → x < 0xFFFFFFFFA0000000 →
        go = if s.mode = .kernel then .pa (BitVec.ofNat 32 (x - 0xFFFFFFFF80000000)) else err) ∧
      (0xFFFFFFFFA0000000 ≤ x → x < 0xFFFFFFFFC0000000 →
        go = if s.mode = .kernel then .pa (BitVec.ofNat 32 (x - 0xFFFFFFFFA0000000)) else err) ∧
      (0xFFFFFFFFC0000000 ≤ x → x < 0xFFFFFFFFE0000000 →
        go = if s.mode = .user then err else tlbTranslate s va acc) ∧
      (0xFFFFFFFFE0000000 ≤ x → go = if s.mode = .kernel then tlbTranslate s va acc else err))

/-- TLB slot `i` matches the low word of an address (R108): the entry is valid, agrees with it in every bit from 13 on that
the entry's mask leaves, and is global or has the ASID of EntryHi. -/
def tlbMatch (s : State) (va : Dword) (i : Fin 32) : Prop :=
  s.tlb[i].valid = true ∧
  (∀ k, 13 ≤ k → k < 32 → s.tlb[i].mask.getLsbD k = false → va.getLsbD k = s.tlb[i].vpn2.getLsbD k) ∧
  (s.tlb[i].g = true ∨ s.tlb[i].asid = s.cop0.entryHi.extractLsb' 0 8)

/-- R108 to R112: no match is a miss, two matches are Fatal(TLB_MULTI), and one match gives the frame of the half that the
address selects with the page offset, an invalid half or a store to a read-only one being a fault. -/
def Obligations.TlbTranslation : Prop :=
  ∀ (s : State) (va : Dword) (acc : Access),
    let go := tlbTranslate s va acc
    ((∀ i, ¬ tlbMatch s va i) → go = .fault (if acc = .store then .tlbMissStore va else .tlbMissLoad va)) ∧
    (∀ i j, i ≠ j → tlbMatch s va i → tlbMatch s va j → go = .fatal .tlbMulti) ∧
    (∀ i, tlbMatch s va i → (∀ j, tlbMatch s va j → j = i) →
      let a : Word := va.setWidth 32
      let off : Word := (s.tlb[i].mask ||| 0x1FFF#32) >>> 1
      let lo := if a &&& (off + 1#32) = 0#32 then s.tlb[i].lo0 else s.tlb[i].lo1
      let frame : Word := BitVec.ofNat 32 (lo.toNat / 64 % 2 ^ 20 * 4096)
      go = if lo.getLsbD 1 = false then .fault (if acc = .store then .tlbInvalidStore va else .tlbInvalidLoad va)
           else if acc = .store ∧ lo.getLsbD 2 = false then .fault (.tlbModification va)
           else .pa ((frame &&& ~~~off) ||| (a &&& off)))

/-! ## Exceptions (60_exceptions.md sections 1 to 3) -/

/-- The outcome of an instruction that raises `k` (R413, R414): Fatal(BEV) while Status.BEV is 1, else the entry, with the
instruction's own address to save. -/
def takes (k : Exc) (s : State) : Out :=
  if s.cop0.status.getLsbD 22 then stops .bev s else .next (enterException k true s)

/-- The address a kind records (R416), and whether it is a TLB kind. -/
def recorded : Exc → Option (Dword × Bool)
  | .addressErrorLoad va | .addressErrorStore va => some (va, false)
  | .tlbModification va | .tlbMissLoad va | .tlbInvalidLoad va | .tlbMissStore va | .tlbInvalidStore va => some (va, true)
  | .interrupt | .syscall | .breakpoint | .copUnusable _ | .trap => none

/-- R410, R413 to R417, field by field: the saved address and BD only while EXL is 0, EXL set, the code and CE always
written, the faulting address recorded, the vector, and both delay-slot flags cleared; nothing else changes. -/
def Obligations.ExceptionEntry : Prop :=
  ∀ (k : Exc) (usePrev : Bool) (s : State),
    let t := enterException k usePrev s
    let c := s.cop0
    let d := t.cop0
    let saved := if usePrev then s.prevPc else s.pc
    let exl := c.status.getLsbD 1
    t = { s with cop0 := d, pc := t.pc, nextPc := t.pc + 4#64, delaySlot := false, prevDelaySlot := false } ∧
    d = { c with epc := d.epc, cause := d.cause, status := c.status ||| 2#32, badVAddr := d.badVAddr,
                 context := d.context, xContext := d.xContext, entryHi := d.entryHi } ∧
    d.epc = (if exl then c.epc else if s.prevDelaySlot then saved - 4#64 else saved) ∧
    d.cause.getLsbD 31 = (if exl then c.cause.getLsbD 31 else s.prevDelaySlot) ∧
    d.cause.extractLsb' 2 5 = (match k with
      | .interrupt => 0#5 | .tlbModification _ => 1#5 | .tlbMissLoad _ => 2#5 | .tlbInvalidLoad _ => 2#5
      | .tlbMissStore _ => 3#5 | .tlbInvalidStore _ => 3#5 | .addressErrorLoad _ => 4#5 | .addressErrorStore _ => 5#5
      | .syscall => 8#5 | .breakpoint => 9#5 | .copUnusable _ => 11#5 | .trap => 13#5) ∧
    d.cause.extractLsb' 28 2 = (match k with | .copUnusable n => n | _ => 0#2) ∧
    d.cause &&& 0x4FFFFF83#32 = c.cause &&& 0x4FFFFF83#32 ∧
    t.pc = (match k with
      | .tlbMissLoad _ | .tlbMissStore _ =>
        if exl then 0xFFFFFFFF80000180#64 else if s.ext then 0xFFFFFFFF80000080#64 else 0xFFFFFFFF80000000#64
      | _ => 0xFFFFFFFF80000180#64) ∧
    (match recorded k with
      | none => d.badVAddr = c.badVAddr ∧ d.context = c.context ∧ d.xContext = c.xContext ∧ d.entryHi = c.entryHi
      | some (va, false) => d.badVAddr = va ∧ d.context = c.context ∧ d.xContext = c.xContext ∧ d.entryHi = c.entryHi
      | some (va, true) =>
        d.badVAddr = va ∧
        d.context.extractLsb' 4 19 = va.extractLsb' 13 19 ∧
        d.context &&& 0xFFFFFFFFFF80000F#64 = c.context &&& 0xFFFFFFFFFF80000F#64 ∧
        d.xContext.extractLsb' 31 2 = va.extractLsb' 62 2 ∧
        d.xContext.extractLsb' 4 27 = va.extractLsb' 13 27 ∧
        d.xContext &&& 0xFFFFFFFE0000000F#64 = c.xContext &&& 0xFFFFFFFE0000000F#64 ∧
        d.entryHi = (va &&& 0xC00000FFFFFFE000#64) ||| (c.entryHi &&& 0xFF#64))

/-- R376, R420: outside a delay slot and with COP0 usable, ERET goes to ErrorEPC clearing ERL while ERL is 1, else to EPC
clearing EXL; the link bit is cleared, and nothing else changes. -/
def Obligations.Eret : Prop :=
  ∀ s : State, s.prevDelaySlot = false → s.usable0 →
    (s.cop0.status.getLsbD 2 = true →
      exec .eret s = .next { s with
        pc := s.cop0.errorEpc, nextPc := s.cop0.errorEpc + 4#64, llbit := false
        cop0 := { s.cop0 with status := s.cop0.status &&& 0xFFFFFFFB#32 } }) ∧
    (s.cop0.status.getLsbD 2 = false →
      exec .eret s = .next { s with
        pc := s.cop0.epc, nextPc := s.cop0.epc + 4#64, llbit := false
        cop0 := { s.cop0 with status := s.cop0.status &&& 0xFFFFFFFD#32 } })

/-! ## System instructions (44_system.md) -/

/-- A conditional trap (R340): no effect when the condition fails, TRAP when it holds. -/
def trapsWhen (cond : Prop) (i : Instr) (s : State) : Prop :=
  (¬ cond → exec i s = .next s) ∧ (cond → exec i s = takes .trap s)

/-- R340 to R354, R356, R357: SYSCALL and BREAK take their exception, the twelve traps compare all 64 bits and take TRAP or
do nothing, the immediate sign-extended; SYNC, and CACHE where COP0 is usable, do nothing. -/
def Obligations.TrapsSyncAndCache : Prop :=
  ∀ (s : State) (rs rt : Reg) (imm : Imm) (code : BitVec 20) (tcode : BitVec 10) (op : BitVec 5),
    let a := s.gpr rs
    let b := s.gpr rt
    let c : Dword := BitVec.ofInt 64 imm.toInt
    (s.cop0.status.getLsbD 22 = false →
      exec (.syscall code) s = .next (enterException .syscall true s) ∧
      exec (.brk code) s = .next (enterException .breakpoint true s)) ∧
    (s.cop0.status.getLsbD 22 = true → exec (.syscall code) s = stops .bev s ∧ exec (.brk code) s = stops .bev s) ∧
    trapsWhen (b.toInt ≤ a.toInt) (.tge rs rt tcode) s ∧ trapsWhen (b.toNat ≤ a.toNat) (.tgeu rs rt tcode) s ∧
    trapsWhen (a.toInt < b.toInt) (.tlt rs rt tcode) s ∧ trapsWhen (a.toNat < b.toNat) (.tltu rs rt tcode) s ∧
    trapsWhen (a = b) (.teq rs rt tcode) s ∧ trapsWhen (a ≠ b) (.tne rs rt tcode) s ∧
    trapsWhen (imm.toInt ≤ a.toInt) (.tgei rs imm) s ∧ trapsWhen (c.toNat ≤ a.toNat) (.tgeiu rs imm) s ∧
    trapsWhen (a.toInt < imm.toInt) (.tlti rs imm) s ∧ trapsWhen (a.toNat < c.toNat) (.tltiu rs imm) s ∧
    trapsWhen (a = c) (.teqi rs imm) s ∧ trapsWhen (a ≠ c) (.tnei rs imm) s ∧
    exec (.sync op) s = .next s ∧ (s.usable0 → exec (.cache rs op imm) s = .next s)

/-- R360, R380, R412: where the coprocessor is unusable the instruction takes COP_UNUSABLE with the coprocessor's number,
after the delay-slot check and the 64-bit gate and before everything else. -/
def Obligations.CoprocessorUnusable : Prop :=
  ∀ (i : Instr) (s : State), (is64 i = true → s.enabled64) → (isControl i = true → s.prevDelaySlot = false) →
    (isCop0 i = true → ¬ s.usable0 → exec i s = takes (.copUnusable 0#2) s) ∧
    (isCop1 i = true → ¬ s.usable1 → exec i s = takes (.copUnusable 1#2) s)

/-- R361, R362, R366, R31, R37: MFC0 writes the low word of the register sign-extended, DMFC0 the register, a 32-bit one
sign-extended; Count is bits 32:1 of the counter, and a read of Random is a draw from Wired to 31. The counter `draws`
that such a read advances is the model's own (log 3). -/
def Obligations.Cop0Reads : Prop :=
  ∀ (s : State) (rt : Reg), s.usable0 →
    let c := s.cop0
    let reads (n : BitVec 5) (v : Dword) : Prop :=
      exec (.mfc0 rt n) s = .next (s.setGpr rt ((v.setWidth 32).signExtend 64)) ∧
      (s.enabled64 → exec (.dmfc0 rt n) s = .next (s.setGpr rt v))
    let word (n : BitVec 5) (x : Word) : Prop := reads n (x.signExtend 64)
    let random (i : Instr) : Prop :=
      ∃ v : Dword, exec i s = .next ({ s with draws := s.draws + 1 }.setGpr rt v) ∧ v.toNat ≤ 31 ∧
        (c.wired.toNat % 64 ≤ 31 → c.wired.toNat % 64 ≤ v.toNat)
    word 0#5 c.index ∧ word 2#5 c.entryLo0 ∧ word 3#5 c.entryLo1 ∧ reads 4#5 c.context ∧ word 5#5 c.pageMask ∧
    word 6#5 c.wired ∧ reads 8#5 c.badVAddr ∧ word 9#5 (BitVec.ofNat 32 (c.count.toNat / 2)) ∧ reads 10#5 c.entryHi ∧
    word 11#5 c.compare ∧ word 12#5 c.status ∧ word 13#5 c.cause ∧ reads 14#5 c.epc ∧ word 15#5 0x00000B22#32 ∧
    word 16#5 c.config ∧ word 17#5 c.llAddr ∧ word 18#5 c.watchLo ∧ word 19#5 c.watchHi ∧ reads 20#5 c.xContext ∧
    reads 30#5 c.errorEpc ∧ random (.mfc0 rt 1#5) ∧ (s.enabled64 → random (.dmfc0 rt 1#5))

/-- R363, R364, R367, R29, R30: a write of a COP0 register changes the bits of its mask and no other state; Random, BadVAddr
and PRId ignore it, Count takes the doubled word, and Compare clears IP7. MTC0 writes the sign-extended low word. -/
def Obligations.Cop0Writes : Prop :=
  ∀ (s : State) (rt : Reg), s.usable0 →
    let c := s.cop0
    let writes (n : BitVec 5) (f : Dword → Cop0) : Prop :=
      exec (.mtc0 rt n) s = .next { s with cop0 := f (((s.gpr rt).setWidth 32).signExtend 64) } ∧
      (s.enabled64 → exec (.dmtc0 rt n) s = .next { s with cop0 := f (s.gpr rt) })
    let word (mask old : Word) (v : Dword) : Word := (old &&& ~~~mask) ||| (v.setWidth 32 &&& mask)
    let dword (mask old v : Dword) : Dword := (old &&& ~~~mask) ||| (v &&& mask)
    writes 0#5 (fun v => { c with index := word 0x8000003F#32 c.index v }) ∧
    writes 1#5 (fun _ => c) ∧
    writes 2#5 (fun v => { c with entryLo0 := word 0x03FFFFFF#32 c.entryLo0 v }) ∧
    writes 3#5 (fun v => { c with entryLo1 := word 0x03FFFFFF#32 c.entryLo1 v }) ∧
    writes 4#5 (fun v => { c with context := dword 0xFFFFFFFFFF800000#64 c.context v }) ∧
    writes 5#5 (fun v => { c with pageMask := word 0x01FFE000#32 c.pageMask v }) ∧
    writes 6#5 (fun v => { c with wired := word 0x0000003F#32 c.wired v }) ∧
    writes 8#5 (fun _ => c) ∧
    writes 9#5 (fun v => { c with count := BitVec.ofNat 33 (v.toNat % 2 ^ 32 * 2) }) ∧
    writes 10#5 (fun v => { c with entryHi := dword 0xC00000FFFFFFE0FF#64 c.entryHi v }) ∧
    writes 11#5 (fun v => { c with compare := v.setWidth 32, cause := c.cause &&& 0xFFFF7FFF#32 }) ∧
    writes 12#5 (fun v => { c with status := word 0xFF57FFFF#32 c.status v }) ∧
    writes 13#5 (fun v => { c with cause := word 0x00000300#32 c.cause v }) ∧
    writes 14#5 (fun v => { c with epc := v }) ∧
    writes 15#5 (fun _ => c) ∧
    writes 16#5 (fun v => { c with config := word 0x0F00000F#32 c.config v }) ∧
    writes 17#5 (fun v => { c with llAddr := v.setWidth 32 }) ∧
    writes 18#5 (fun v => { c with watchLo := word 0xFFFFFFFB#32 c.watchLo v }) ∧
    writes 19#5 (fun v => { c with watchHi := word 0x0000000F#32 c.watchHi v }) ∧
    writes 20#5 (fun v => { c with xContext := dword 0xFFFFFFFE00000000#64 c.xContext v }) ∧
    writes 30#5 (fun v => { c with errorEpc := v })

/-- R365, R372, R383, R386, R399: the forms the core refuses stop Fatal with their reason, once the coprocessor is usable: a
COP0 or COP1 control register the core does not have, TLBWR, and every FP compute word. -/
def Obligations.StopsByRule : Prop :=
  ∀ (s : State) (rt n fs fd : Reg) (funct : BitVec 6),
    (s.usable0 →
      (n.toNat ∈ [7, 21, 22, 23, 24, 25, 26, 27, 28, 29, 31] →
        exec (.mfc0 rt n) s = stops .cop0Index s ∧ exec (.mtc0 rt n) s = stops .cop0Index s ∧
        (s.enabled64 → exec (.dmfc0 rt n) s = stops .cop0Index s ∧ exec (.dmtc0 rt n) s = stops .cop0Index s)) ∧
      exec .tlbwr s = stops .tlbwr s) ∧
    (s.usable1 →
      (fs ≠ 0#5 → fs ≠ 31#5 → exec (.cfc1 rt fs) s = stops .cop1ControlIndex s) ∧
      (fs ≠ 31#5 → exec (.ctc1 rt fs) s = stops .cop1ControlIndex s) ∧
      exec (.fpComputeS rt fs fd funct) s = stops .fpuArithmetic s ∧
      exec (.fpComputeD rt fs fd funct) s = stops .fpuArithmetic s ∧
      exec (.fpComputeW rt fs fd funct) s = stops .fpuArithmetic s ∧
      exec (.fpComputeL rt fs fd funct) s = stops .fpuArithmetic s)

/-- R371, R373, R374: TLBWI writes the slot Index names, or is Fatal(TLB_PAGEMASK) for an illegal page mask; TLBR reads that
slot into COP0; TLBP finds the slot that matches EntryHi, sets P with undefined index bits on a miss, and is
Fatal(TLB_MULTI) on two matches. The counter `draws` that a miss advances is the model's own (log 3). -/
def Obligations.TlbInstructions : Prop :=
  ∀ s : State, s.usable0 →
    let c := s.cop0
    let i : Fin 32 := ⟨c.index.toNat % 32, Nat.mod_lt _ (by decide)⟩
    let legal := c.pageMask.toNat ∈ [0x0, 0x6000, 0x1E000, 0x7E000, 0x1FE000, 0x7FE000, 0x1FFE000]
    (legal → ∃ t, exec .tlbwi s = .next t ∧ t = { s with tlb := t.tlb } ∧ (∀ j, j ≠ i → t.tlb[j] = s.tlb[j]) ∧
      t.tlb[i].valid = true ∧ t.tlb[i].mask = c.pageMask ∧ t.tlb[i].vpn2 = c.entryHi &&& 0xC00000FFFFFFE000#64 ∧
      t.tlb[i].asid = c.entryHi.extractLsb' 0 8 ∧
      t.tlb[i].g = (c.entryLo0.getLsbD 0 && c.entryLo1.getLsbD 0) ∧
      t.tlb[i].lo0 = c.entryLo0 &&& 0x03FFFFFE#32 ∧ t.tlb[i].lo1 = c.entryLo1 &&& 0x03FFFFFE#32) ∧
    (¬ legal → exec .tlbwi s = stops .tlbPagemask s) ∧
    (let e := s.tlb[i]
     let g : Word := if e.g then 1#32 else 0#32
     exec .tlbr s = .next { s with cop0 := { c with
       pageMask := e.mask, entryHi := e.vpn2 ||| e.asid.setWidth 64, entryLo0 := e.lo0 ||| g, entryLo1 := e.lo1 ||| g } }) ∧
    ((∀ j, ¬ tlbMatch s c.entryHi j) → ∃ d < 64,
      exec .tlbp s = .next { s with
        draws := s.draws + 1, cop0 := { c with index := BitVec.ofNat 32 (0x80000000 + d) } }) ∧
    (∀ j, tlbMatch s c.entryHi j → (∀ k, tlbMatch s c.entryHi k → k = j) →
      exec .tlbp s = .next { s with cop0 := { c with index := BitVec.ofNat 32 j.val } }) ∧
    (∀ j k, j ≠ k → tlbMatch s c.entryHi j → tlbMatch s c.entryHi k → exec .tlbp s = stops .tlbMulti s)

/-! ## COP1 (45_cop1.md) -/

/-- R383, R386: CFC1 reads FCR0 or FCR31; CTC1 writes the bits of the FCR31 layout, or is Fatal(FPU_EXCEPTION) when the value
has E, or a Cause bit with its Enable bit. -/
def Obligations.FpControlRegisters : Prop :=
  ∀ (s : State) (rt : Reg), s.usable1 →
    let v : Word := (s.gpr rt).setWidth 32 &&& 0x0183FFFF#32
    let pending := v.getLsbD 17 = true ∨ ∃ k < 5, v.getLsbD (12 + k) = true ∧ v.getLsbD (7 + k) = true
    exec (.cfc1 rt 0#5) s = .next (s.setGpr rt 0x0000000000000A00#64) ∧
    exec (.cfc1 rt 31#5) s = .next (s.setGpr rt (s.fcr31.signExtend 64)) ∧
    (¬ pending → exec (.ctc1 rt 31#5) s = .next { s with fcr31 := v }) ∧
    (pending → exec (.ctc1 rt 31#5) s = stops .fpuException s)

/-- Where the 32-bit FP register `r` stands (R381): the register and the first bit of the half. -/
def fpPlace (s : State) (r : Reg) : Reg × Nat :=
  if s.cop0.status.getLsbD 26 = true ∨ r.toNat % 2 = 0 then (r, 0) else (r - 1#5, 32)

/-- The 32-bit FP register `r` (R381). -/
def fpWord (s : State) (r : Reg) : Word := (s.fgr (fpPlace s r).1).extractLsb' (fpPlace s r).2 32

/-- `t` is `s` with the 32-bit FP register `r` written: every other half of a register, and every other state, is as before. -/
def fpWordWritten (s t : State) (r : Reg) (v : Word) : Prop :=
  t = { s with fgrs := t.fgrs } ∧
  ∀ (q : Reg) (b : Nat), b = 0 ∨ b = 32 →
    (t.fgr q).extractLsb' b 32 = if (q, b) = fpPlace s r then v else (s.fgr q).extractLsb' b 32

/-- `t` is `s` with the 64-bit FP register `r` written, and nothing else. -/
def fpDwordWritten (s t : State) (r : Reg) (v : Dword) : Prop :=
  t = { s with fgrs := t.fgrs } ∧ ∀ q : Reg, t.fgr q = if q = r then v else s.fgr q

/-- R381, R384, R385, R387, R388: the data moves through the view of Status.FR; a doubleword move of an odd register while FR
is 0 is Fatal(FR0_ODD_DOUBLE). -/
def Obligations.FpMoves : Prop :=
  ∀ (s : State) (rt fs : Reg), s.usable1 →
    exec (.mfc1 rt fs) s = .next (s.setGpr rt ((fpWord s fs).signExtend 64)) ∧
    (∃ t, exec (.mtc1 rt fs) s = .next t ∧ fpWordWritten s t fs ((s.gpr rt).setWidth 32)) ∧
    (s.enabled64 → s.fpDouble fs →
      exec (.dmfc1 rt fs) s = .next (s.setGpr rt (s.fgr fs)) ∧
      ∃ t, exec (.dmtc1 rt fs) s = .next t ∧ fpDwordWritten s t fs (s.gpr rt)) ∧
    (s.enabled64 → ¬ s.fpDouble fs →
      exec (.dmfc1 rt fs) s = stops .fr0OddDouble s ∧ exec (.dmtc1 rt fs) s = stops .fr0OddDouble s)

/-- R381, R393 to R396: the FP loads and stores; LDC1 checks FR after its read, SDC1 before its access. -/
def Obligations.FpLoadsAndStores : Prop :=
  ∀ (s t : State) (base ft : Reg) (offset : Imm) (pa : Word) (v : Dword), s.endianOk → s.usable1 →
    let va := s.address base offset
    (Machine.translate s va .load .word = .pa pa → busRead pa .word s = .ok v t →
      ∃ u, exec (.lwc1 base ft offset) s = .next u ∧ fpWordWritten t u ft (v.setWidth 32)) ∧
    (Machine.translate s va .load .dword = .pa pa → busRead pa .dword s = .ok v t →
      (s.fpDouble ft → ∃ u, exec (.ldc1 base ft offset) s = .next u ∧ fpDwordWritten t u ft v) ∧
      (¬ s.fpDouble ft → exec (.ldc1 base ft offset) s = stops .fr0OddDouble t)) ∧
    (Machine.translate s va .store .word = .pa pa → busWrite pa .word ((fpWord s ft).setWidth 64) s = .ok () t →
      exec (.swc1 base ft offset) s = .next t) ∧
    (¬ s.fpDouble ft → exec (.sdc1 base ft offset) s = stops .fr0OddDouble s) ∧
    (s.fpDouble ft → Machine.translate s va .store .dword = .pa pa → busWrite pa .dword (s.fgr ft) s = .ok () t →
      exec (.sdc1 base ft offset) s = .next t)

/-! ## The physical bus (20_memory.md sections 4 to 7) -/

/-- The windows of R118: name, first and last address. -/
def windowRanges (r : RdramSize) : List (Window × Nat × Nat) := [
  (.rdram, 0x00000000, match r with | .mib4 => 0x003FFFFF | .mib8 => 0x007FFFFF), (.spDmem, 0x04000000, 0x04000FFF),
  (.spImem, 0x04001000, 0x04001FFF), (.spRegs, 0x04040000, 0x0404001F), (.spPcRegs, 0x04080000, 0x04080007),
  (.mi, 0x04300000, 0x0430000F), (.vi, 0x04400000, 0x04400037), (.ai, 0x04500000, 0x04500017), (.pi, 0x04600000, 0x04600033),
  (.ri, 0x04700000, 0x0470001F), (.si, 0x04800000, 0x0480001B), (.cart, 0x10000000, 0x1FBFFFFF),
  (.pifRam, 0x1FC007C0, 0x1FC007FF)]

/-- R118, R119: no address stands in two windows, and an address is claimed by the window whose range holds it. -/
def Obligations.WindowsAreDisjoint : Prop :=
  ∀ (r : RdramSize) (a : Nat),
    (∀ x ∈ windowRanges r, ∀ y ∈ windowRanges r, x.2.1 ≤ a → a ≤ x.2.2 → y.2.1 ≤ a → a ≤ y.2.2 → x = y) ∧
    (∀ w b, windowOf r a = some (w, b) ↔ ∃ last, (w, b, last) ∈ windowRanges r ∧ b ≤ a ∧ a ≤ last)

/-- A physical address of the cartridge window (R118). -/
def inCart (a : Nat) : Prop := 0x10000000 ≤ a ∧ a ≤ 0x1FBFFFFF

/-- A physical address of a register window (R118, R123). -/
def inRegisters (s : State) (a : Nat) : Prop :=
  ∃ w b, windowOf s.inputs.rdram a = some (w, b) ∧
    w ∈ [Window.spRegs, .spPcRegs, .mi, .vi, .ai, .pi, .ri, .si]

/-- R117, R120, R121, R123, R124: a read of a byte-array window gives its bytes as a big-endian number and has no side
effect, the cartridge likewise for 1, 2 and 4 bytes (a byte beyond the image is a draw), a register window takes 4-byte reads only, and
an address in no window is Fatal(BUS_UNMAPPED). -/
def Obligations.BusReads : Prop :=
  ∀ (s : State) (pa : Word) (w : Width),
    let a := pa.toNat
    let n := w.bytes
    (windowOf s.inputs.rdram a = none → busRead pa w s = .fatal .busUnmapped s) ∧
    (s.bytesAt a → ∃ v, busRead pa w s = .ok v s ∧ v.toNat = bigEndian (s.bytes a n)) ∧
    (inCart a → w = .dword → busRead pa w s = .fatal .busWidth s) ∧
    (inCart a → w ≠ .dword → ∃ v t, busRead pa w s = .ok v t ∧ t = { s with draws := t.draws } ∧ v.toNat < 256 ^ n ∧
      (∀ i b, i < n → s.inputs.cart[a - 0x10000000 + i]? = some b → v.extractLsb' (8 * (n - 1 - i)) 8 = b) ∧
      (a - 0x10000000 + n ≤ s.inputs.cart.length → t = s)) ∧
    (inRegisters s a → w ≠ .word → busRead pa w s = .fatal .busWidth s)

/-- R117, R120, R121, R123 to R125, R470: a write of a byte-array window stores the bytes; one that covers the last byte of PIF
RAM then replaces its 64 bytes by SERIAL_PROC of them, whatever that function is; the cartridge is read-only, and a register window takes
4-byte writes only. That SERIAL_PROC is `Config.serialProc` at the counter `draws`, which the call advances, is the model's
own (log 7). -/
def Obligations.BusWrites : Prop :=
  ∀ (s : State) (pa : Word) (w : Width) (v : Dword),
    let a := pa.toNat
    let n := w.bytes
    let byteAfter (x : Nat) : Byte := if a ≤ x ∧ x < a + n then v.extractLsb' (8 * (a + n - 1 - x)) 8 else s.mem.read x
    (windowOf s.inputs.rdram a = none → busWrite pa w v s = .fatal .busUnmapped s) ∧
    (s.bytesAt a → s.mem.wf = true → a % n = 0 →
      ∃ t, busWrite pa w v s = .ok () t ∧ t.mem.wf = true ∧
        (a + n ≠ 0x1FC00800 → t = { s with mem := t.mem } ∧ ∀ x, t.mem.read x = byteAfter x) ∧
        (a + n = 0x1FC00800 →
          t = { s with mem := t.mem, draws := s.draws + 1 } ∧
          ∀ x, t.mem.read x =
            if 0x1FC007C0 ≤ x ∧ x < 0x1FC00800 then
              Config.serialProc s.draws ((List.range 64).map fun i => byteAfter (0x1FC007C0 + i)) (x - 0x1FC007C0)
            else s.mem.read x)) ∧
    (inCart a → busWrite pa w v s = .fatal .romWrite s) ∧
    (inRegisters s a → w ≠ .word → busWrite pa w v s = .fatal .busWidth s)

/-! ## Devices (60_exceptions.md sections 6 to 10) -/

/-- `t` has Cause.IP2 recomputed (R433) and COP0 otherwise as in `s`. -/
def recomputed (s t : State) : Prop :=
  t.cop0 = { s.cop0 with cause := t.cop0.cause } ∧
  ∀ k, t.cop0.cause.getLsbD k = if k = 10 then (t.mi.intr &&& t.mi.mask) != 0#6 else s.cop0.cause.getLsbD k

/-- A bit under a clear/set pair of `v` (R441, R444, R471): both or neither leave it unchanged. -/
def paired (v : Dword) (clr set : Nat) (old : Bool) : Bool :=
  match v.getLsbD clr, v.getLsbD set with
  | true, false => false
  | false, true => true
  | _, _ => old

/-- R441 to R445: the MIPS interface: what each register reads, and what a write of it changes, Cause.IP2 following. -/
def Obligations.MipsInterface : Prop :=
  ∀ (s : State) (v : Dword),
    let m := s.mi
    busRead 0x04300000#32 .word s = .ok (BitVec.ofNat 64 (m.initLen.toNat + 128 * m.initMode.toNat +
      256 * m.ebusTest.toNat + 512 * m.rdramReg.toNat)) s ∧
    busRead 0x04300004#32 .word s = .ok 0x02020102#64 s ∧
    busRead 0x04300008#32 .word s = .ok (m.intr.setWidth 64) s ∧
    busRead 0x0430000C#32 .word s = .ok (m.mask.setWidth 64) s ∧
    (∃ t, busWrite 0x04300000#32 .word v s = .ok () t ∧ t = { s with cop0 := t.cop0, mi := t.mi } ∧
      t.mi.initLen = v.extractLsb' 0 7 ∧ t.mi.initMode = paired v 7 8 m.initMode ∧
      t.mi.ebusTest = paired v 9 10 m.ebusTest ∧ t.mi.rdramReg = paired v 12 13 m.rdramReg ∧ t.mi.mask = m.mask ∧
      (v.getLsbD 11 = true → t.mi.intr = m.intr &&& 0x1F#6 ∧ recomputed s t) ∧
      (v.getLsbD 11 = false → t.mi.intr = m.intr ∧ t.cop0 = s.cop0)) ∧
    busWrite 0x04300004#32 .word v s = .ok () s ∧ busWrite 0x04300008#32 .word v s = .ok () s ∧
    (∃ t, busWrite 0x0430000C#32 .word v s = .ok () t ∧
      t = { s with cop0 := t.cop0, mi := { m with mask := t.mi.mask } } ∧
      (∀ k < 6, t.mi.mask.getLsbD k = paired v (2 * k) (2 * k + 1) (m.mask.getLsbD k)) ∧ recomputed s t)

/-- R450 to R452, R461: the video interface: thirteen cells and the line counter, the write of VI_V_CURRENT, and the line
event: the line advances (in 10 bits, DEDUCED, log 12), a field ends at VI_V_SYNC with the registers presented, the interrupt is set at
VI_V_INTR, and the next event is queued. That the values presented are recorded in `frames` is the model's own (log 8). -/
def Obligations.VideoInterface : Prop :=
  ∀ (s : State) (v : Dword),
    let x := s.vi
    let w : Word := v.setWidth 32
    let cell (off : Nat) (old : Word) (new : Vi) : Prop :=
      busRead (BitVec.ofNat 32 (0x04400000 + off)) .word s = .ok (old.setWidth 64) s ∧
      busWrite (BitVec.ofNat 32 (0x04400000 + off)) .word v s = .ok () { s with vi := new }
    cell 0x00 x.status { x with status := w } ∧ cell 0x04 x.origin { x with origin := w } ∧
    cell 0x08 x.width { x with width := w } ∧ cell 0x0C x.vIntr { x with vIntr := w } ∧
    cell 0x14 x.burst { x with burst := w } ∧ cell 0x18 x.vSync { x with vSync := w } ∧
    cell 0x1C x.hSync { x with hSync := w } ∧ cell 0x20 x.leap { x with leap := w } ∧
    cell 0x24 x.hStart { x with hStart := w } ∧ cell 0x28 x.vStart { x with vStart := w } ∧
    cell 0x2C x.vBurst { x with vBurst := w } ∧ cell 0x30 x.xScale { x with xScale := w } ∧
    cell 0x34 x.yScale { x with yScale := w } ∧
    busRead 0x04400010#32 .word s = .ok (x.line.setWidth 64) s ∧
    (∃ t, busWrite 0x04400010#32 .word v s = .ok () t ∧
      t = { s with cop0 := t.cop0, mi := { s.mi with intr := s.mi.intr &&& 0x37#6 } } ∧ recomputed s t) ∧
    (let t := runEvent .viLine s
     let next := (x.line.toNat + 1) % 1024
     let line := if x.vSync.toNat % 1024 ≤ next then 0 else next
     let shown : Vector Word 14 := #v[x.status, x.origin, x.width, x.vIntr, 0#32, x.burst, x.vSync, x.hSync, x.leap,
       x.hStart, x.vStart, x.vBurst, x.xScale, x.yScale]
     t = { s with cop0 := t.cop0, mi := { s.mi with intr := t.mi.intr }, vi := { x with line := BitVec.ofNat 10 line },
                  frames := t.frames, queue := t.queue, nextSeq := s.nextSeq + 1 } ∧
     t.frames = (if x.vSync.toNat % 1024 ≤ next then shown :: s.frames else s.frames) ∧
     t.mi.intr = (if line = x.vIntr.toNat % 1024 then s.mi.intr ||| 8#6 else s.mi.intr) ∧ recomputed s t ∧
     ∀ e, e ∈ t.queue ↔ e = ⟨s.now + s.inputs.viLineCycles, s.nextSeq, .viLine⟩ ∨ e ∈ s.queue)

/-- R466 to R468: the peripheral interface. A write of PI_WR_LEN copies the cartridge bytes to RDRAM at once, sets busy and
queues the completion; it is Fatal while busy, from an odd address, or out of range. The two address registers hold
unspecified values afterwards, and a byte beyond the image is unspecified. A write of PI_RD_LEN is Fatal. The completion
clears busy and sets the PI interrupt, which a write of PI_STATUS clears. A read of PI_RD_LEN or PI_WR_LEN is a draw and
changes nothing but the model's own counter `draws` (log 3). That the length and its sums are natural numbers, so that
v[23:0] = 0xFFFFFF is 2^24 bytes, is the model's reading (log 15). -/
def Obligations.PeripheralInterface : Prop :=
  ∀ (s : State) (v : Dword),
    let d := s.pi.dramAddr.toNat
    let c := s.pi.cartAddr.toNat
    let len := v.toNat % 2 ^ 24 + 1
    let inRange := d + len ≤ rdramBytes s.inputs.rdram ∧ 0x10000000 ≤ c ∧ c + len ≤ 0x1FC00000
    let start := busWrite 0x0460000C#32 .word v s
    busRead 0x04600000#32 .word s = .ok (s.pi.dramAddr.setWidth 64) s ∧
    busRead 0x04600004#32 .word s = .ok (s.pi.cartAddr.setWidth 64) s ∧
    (∀ a, a = 0x04600008#32 ∨ a = 0x0460000C#32 →
      ∃ x t, busRead a .word s = .ok x t ∧ t = { s with draws := t.draws } ∧ x.toNat < 2 ^ 32) ∧
    busRead 0x04600010#32 .word s = .ok (BitVec.ofNat 64 (s.pi.busy.toNat + 8 * (s.mi.intr.getLsbD 4).toNat)) s ∧
    busWrite 0x04600000#32 .word v s = .ok () { s with pi := { s.pi with dramAddr := v.setWidth 24 } } ∧
    busWrite 0x04600004#32 .word v s = .ok () { s with pi := { s.pi with cartAddr := v.setWidth 32 } } ∧
    busWrite 0x04600008#32 .word v s = .fatal .piReadDma s ∧
    (s.pi.busy = true → start = .fatal .piDmaBusy s) ∧
    (s.pi.busy = false → (d % 2 = 1 ∨ c % 2 = 1 ∨ ¬ inRange) → start = .fatal .piDmaRange s) ∧
    (s.pi.busy = false → d % 2 = 0 → c % 2 = 0 → inRange → s.mem.wf = true →
      ∃ t, start = .ok () t ∧
        t = { s with mem := t.mem, pi := { t.pi with busy := true }, queue := t.queue, nextSeq := s.nextSeq + 1,
                     draws := t.draws } ∧
        (∀ e, e ∈ t.queue ↔ e = ⟨s.now + piDmaCycles s.inputs len, s.nextSeq, .piDmaDone⟩ ∨ e ∈ s.queue) ∧
        (∀ i b, i < len → s.inputs.cart[c - 0x10000000 + i]? = some b → t.mem.read (d + i) = b) ∧
        (∀ a, a < d ∨ d + len ≤ a → t.mem.read a = s.mem.read a)) ∧
    (let t := runEvent .piDmaDone s
     t = { s with cop0 := t.cop0, mi := { s.mi with intr := s.mi.intr ||| 0x10#6 }, pi := { s.pi with busy := false } } ∧
     recomputed s t) ∧
    (v.getLsbD 1 = true → ∃ t, busWrite 0x04600010#32 .word v s = .ok () t ∧
      t = { s with cop0 := t.cop0, mi := { s.mi with intr := s.mi.intr &&& 0x2F#6 } } ∧ recomputed s t) ∧
    (v.getLsbD 1 = false → busWrite 0x04600010#32 .word v s = .ok () s)

/-- R471: SP_STATUS: what it reads, and a write by clear/set pairs, the break bit clear-only, bits 3 and 4 for the SP
interrupt of MI, Cause.IP2 following. -/
def Obligations.SpStatus : Prop :=
  ∀ (s : State) (v : Dword),
    let p := s.sp
    busRead 0x04040010#32 .word s = .ok (BitVec.ofNat 64 (p.halt.toNat + 2 * p.broke.toNat + 32 * p.sstep.toNat +
      64 * p.intbreak.toNat + 128 * p.sig.toNat)) s ∧
    ∃ t, busWrite 0x04040010#32 .word v s = .ok () t ∧
      t = { s with cop0 := t.cop0, mi := { s.mi with intr := t.mi.intr }, sp := t.sp } ∧
      t.sp.halt = paired v 0 1 p.halt ∧ t.sp.broke = (p.broke && !v.getLsbD 2) ∧ t.sp.sstep = paired v 5 6 p.sstep ∧
      t.sp.intbreak = paired v 7 8 p.intbreak ∧
      (∀ k < 8, t.sp.sig.getLsbD k = paired v (9 + 2 * k) (10 + 2 * k) (p.sig.getLsbD k)) ∧
      (∀ k < 6, t.mi.intr.getLsbD k = if k = 0 then paired v 3 4 (s.mi.intr.getLsbD 0) else s.mi.intr.getLsbD k) ∧
      recomputed s t

/-- The registers that belong to DEV (R472, R473): window, first address, offsets. -/
def devRegisters : List (Window × Nat × List Nat) := [
  (.spRegs, 0x04040000, [0x00, 0x04, 0x08, 0x0C, 0x14, 0x18, 0x1C]), (.spPcRegs, 0x04080000, [0x00, 0x04]),
  (.ai, 0x04500000, [0x00, 0x04, 0x08, 0x0C, 0x10, 0x14]),
  (.pi, 0x04600000, [0x14, 0x18, 0x1C, 0x20, 0x24, 0x28, 0x2C, 0x30]),
  (.ri, 0x04700000, [0x00, 0x04, 0x08, 0x0C, 0x10, 0x14, 0x18, 0x1C]),
  (.si, 0x04800000, [0x00, 0x04, 0x08, 0x0C, 0x10, 0x14, 0x18])]

/-- R126, R472, R473: a 4-byte access of a register that belongs to DEV is a call of it. Whatever function DEV is, a call
changes only the device state, MI_INTR (SI its bit 1, AI its bit 2, any window sets bit 5) with Cause.IP2 following, and
memory only as an SP DMA (SP_RD_LEN, SP_WR_LEN: RDRAM and the SP memories) or an SI DMA (RDRAM and PIF RAM); it may be
Fatal(DEVICE). That a Fatal call has no effect, and that effects R472 does not allow are left out, is the model's choice
(log 6). -/
def Obligations.DevEffectsLimited : Prop :=
  (∀ (win : Window) (base : Nat) (offsets : List Nat) (off : Nat) (s : State) (v : Dword),
    (win, base, offsets) ∈ devRegisters → off ∈ offsets →
    busRead (BitVec.ofNat 32 (base + off)) .word s =
      (match devCall win base off .read s with
        | .ok x t => .ok (x.setWidth 64) t
        | .raised t => .raised t
        | .fatal r t => .fatal r t) ∧
    busWrite (BitVec.ofNat 32 (base + off)) .word v s =
      (match devCall win base off (.write (v.setWidth 32)) s with
        | .ok _ t => .ok () t
        | .raised t => .raised t
        | .fatal r t => .fatal r t)) ∧
  ∀ (s : State) (win : Window) (base off : Nat) (op : DevOp), s.mem.wf = true →
    devCall win base off op s = .fatal .device s ∨
    ∃ v t, devCall win base off op s = .ok v t ∧
      t = { s with dev := t.dev, mem := t.mem, cop0 := t.cop0, mi := { s.mi with intr := t.mi.intr } } ∧
      recomputed s t ∧ t.mem.wf = true ∧
      (∀ k < 6, t.mi.intr.getLsbD k = s.mi.intr.getLsbD k ∨ (k = 1 ∧ win = .si) ∨ (k = 2 ∧ win = .ai) ∨
        (k = 5 ∧ t.mi.intr.getLsbD 5 = true)) ∧
      (∀ a, t.mem.read a = s.mem.read a ∨
        (win = .spRegs ∧ (off = 8 ∨ off = 12) ∧ (a < rdramBytes s.inputs.rdram ∨ 0x04000000 ≤ a ∧ a < 0x04002000)) ∨
        (win = .si ∧ (a < rdramBytes s.inputs.rdram ∨ 0x1FC007C0 ≤ a ∧ a < 0x1FC00800)))

/-! ## The scheduler (60_exceptions.md section 8) -/

/-- R460 to R464, R467: a tick advances `now` and runs the events that are due, so none is left due; it touches nothing but
the device state of those events. A DMA completion `n` cycles away does not run in `tick (n - 1)` and runs in the `tick 1` after it. -/
def Obligations.TickRunsDueEvents : Prop :=
  (∀ (s : State) (n : Nat), s.DataInv →
    ∃ t, tick n s = .next t ∧ (∀ e ∈ t.queue, t.now < e.deadline) ∧
      t = { s with cop0 := { s.cop0 with cause := t.cop0.cause }, mi := { s.mi with intr := t.mi.intr },
                   vi := { s.vi with line := t.vi.line }, pi := { s.pi with busy := t.pi.busy }, now := s.now + n,
                   queue := t.queue, nextSeq := t.nextSeq, frames := t.frames } ∧
      ((∀ e ∈ s.queue, s.now + n < e.deadline) → t = { s with now := s.now + n })) ∧
  ∀ (s : State) (q : List Event) (n k : Nat), 1 ≤ n → s.queue = ⟨s.now + n, k, .piDmaDone⟩ :: q →
    (∀ e ∈ q, s.now + n < e.deadline) →
    ∃ t u, tick (n - 1) s = .next t ∧ t.pi.busy = s.pi.busy ∧ tick 1 t = .next u ∧ u.pi.busy = false ∧
      u.mi.intr.getLsbD 4 = true ∧ u.queue = q

/-! ## Reset (70_reset_and_hazards.md) -/

/-- R480 to R484: the values the spec gives for reset and the HLE boot, for every launch: registers the boot table does not
name, HI, LO, the flags, the PC, Status, Cause.IP, Wired, Config, the TLB, the devices and the queue; the first 4096 bytes
of the cartridge stand in SP DMEM; and GPR2 for CIC 6102/7101. -/
def Obligations.BootState : Prop :=
  ∀ l : Launch,
    let s := hleBoot l
    (l.cic = .cic6102or7101 → s.gpr 2#5 = 0x000000000EBDA536#64) ∧
    (∀ r, (∀ p ∈ l.bootGpr, p.1 ≠ r) → r ≠ 2#5 → s.gpr r = 0#64) ∧ s.hi = 0#64 ∧ s.lo = 0#64 ∧
    s.delaySlot = false ∧ s.prevDelaySlot = false ∧ s.llbit = false ∧ s.fatal = none ∧
    s.pc = 0xFFFFFFFFA4000040#64 ∧ s.nextPc = 0xFFFFFFFFA4000044#64 ∧
    s.cop0.status = 0x34000000#32 ∧ s.cop0.cause.extractLsb' 8 8 = 0#8 ∧ s.cop0.wired = 0#32 ∧
    s.cop0.config = 0x0006E463#32 ∧
    (∀ i : Fin 32, s.tlb[i] = { valid := false, mask := 0, vpn2 := 0, asid := 0, g := false, lo0 := 0, lo1 := 0 }) ∧
    s.mi.intr = 0#6 ∧ s.mi.mask = 0#6 ∧ s.vi.line = 0#10 ∧ s.pi.busy = false ∧
    s.sp = { halt := true, broke := false, sstep := false, intbreak := false, sig := 0#8 } ∧
    s.now = 0 ∧ s.queue = [⟨l.inputs.viLineCycles, 0, .viLine⟩] ∧ s.nextSeq = 1 ∧ s.mode = .kernel ∧
    (l.mem.wf = true → ∀ i b, i < 4096 → l.inputs.cart[i]? = some b → s.mem.read (0x04000000 + i) = b)

/-- The state after reset meets the invariant (R480, R484); its unspecified values are the model's own (log 1). -/
def Obligations.ResetMeetsInvariant : Prop := State.reset.Inv

/-! ## The whole machine -/

/-- Every step keeps the invariant, from every state that has it (R21, R29 to R48, R50, R371, R433, R460 to R467, R484): the
memory stays in its form and its windows, register 0 stays 0, reserved bits keep their value, Cause.IP2 follows MI,
every TLB entry is legal, one line event is queued, a PI DMA is busy exactly while its completion is queued, and nothing is due. -/
def Obligations.StepKeepsInvariant : Prop := ∀ s t : State, s.Inv → step s = .next t → t.Inv

/-- R360, R435, R436: while CU0 is 0, a user-mode instruction changes no TLB entry and no launch input. Either it takes an
exception, the entry being its whole effect, and runs on in kernel mode at one of the three vectors; or the mode stays user
and of COP0 only LLAddr (LL, LLD) and Cause.IP2, which follows the device a store reached (R433), may change. -/
def Obligations.UserModeIsConfined : Prop :=
  ∀ (i : Instr) (s t : State), s.mode = .user → s.cop0.status.getLsbD 28 = false → exec i s = .next t →
    t.tlb = s.tlb ∧ t.inputs = s.inputs ∧
    ((t.mode = .user ∧ t.cop0 = { s.cop0 with cause := t.cop0.cause, llAddr := t.cop0.llAddr } ∧
      ∀ k, k ≠ 10 → t.cop0.cause.getLsbD k = s.cop0.cause.getLsbD k) ∨
     ((∃ k, t = enterException k true s) ∧ t.mode = .kernel ∧ t.cop0.status = s.cop0.status ||| 2#32 ∧ t.gprs = s.gprs ∧
      t.mem = s.mem ∧ t.pc ∈ [0xFFFFFFFF80000000#64, 0xFFFFFFFF80000080#64, 0xFFFFFFFF80000180#64]))
end

