-- ==== Sys2Proof/Laws/Memory.lean ====
section
/-! SUPPORT. The byte memory: every operation keeps the canonical form, a read after a write gives the value written, and equal
reads are equal memories. -/

namespace Sys2Proof.Machine

/-! ## Cells -/

variable {n : Nat} {d : BitVec n}

theorem cellsWf_mono {lo lo' : Nat} (h : lo' ≤ lo) {m : List (Nat × BitVec n)} (hm : cellsWf d lo m = true) :
    cellsWf d lo' m = true := by
  cases m with
  | nil => rfl
  | cons c m =>
    simp only [cellsWf, Bool.and_eq_true, decide_eq_true_eq] at hm ⊢
    exact ⟨⟨by omega, hm.1.2⟩, hm.2⟩

theorem cellsRead_below {lo a : Nat} {m : List (Nat × BitVec n)} (hm : cellsWf d lo m = true) (h : a < lo) :
    cellsRead d m a = d := by
  cases m with
  | nil => rfl
  | cons c m =>
    simp only [cellsWf, Bool.and_eq_true, decide_eq_true_eq] at hm
    simp [cellsRead, show a < c.1 by omega]

theorem cellsWf_write {lo a : Nat} {b : BitVec n} {m : List (Nat × BitVec n)} (hm : cellsWf d lo m = true) (h : lo ≤ a) :
    cellsWf d lo (cellsWrite d m a b) = true := by
  induction m generalizing lo with
  | nil =>
    simp only [cellsWrite]
    split
    · rfl
    · simp [cellsWf, *]
  | cons c m ih =>
    obtain ⟨k, x⟩ := c
    simp only [cellsWf, Bool.and_eq_true, decide_eq_true_eq] at hm
    obtain ⟨⟨hk, hx⟩, hm⟩ := hm
    simp only [cellsWrite]
    split
    · split
      · simp [cellsWf, hk, hm, hx]
      · have := cellsWf_mono (lo' := k + 1) (Nat.le_refl _) hm
        simp [cellsWf, *]
    · split
      · subst a
        split
        · exact cellsWf_mono (by omega) hm
        · simp [cellsWf, *]
      · simp only [cellsWf, Bool.and_eq_true, decide_eq_true_eq]
        exact ⟨⟨hk, hx⟩, ih hm (by omega)⟩

/-- What a key reads as after a write. -/
theorem cellsRead_write {lo a : Nat} {b : BitVec n} {m : List (Nat × BitVec n)} (hm : cellsWf d lo m = true) (x : Nat) :
    cellsRead d (cellsWrite d m a b) x = if x = a then b else cellsRead d m x := by
  induction m generalizing lo with
  | nil =>
    simp only [cellsWrite]
    by_cases hb : b = d
    · simp [hb, cellsRead]
    · simp only [hb, if_false, cellsRead]
      by_cases hx : x < a
      · simp [hx, show x ≠ a by omega]
      · simp [hx]
  | cons c m ih =>
    obtain ⟨k, y⟩ := c
    simp only [cellsWf, Bool.and_eq_true, decide_eq_true_eq] at hm
    obtain ⟨⟨hk, hy⟩, hm⟩ := hm
    simp only [cellsWrite]
    by_cases hak : a < k
    · simp only [hak, if_true]
      by_cases hb : b = d
      · by_cases hxa : x = a
        · simp [hb, hxa, cellsRead, hak]
        · simp [hb, hxa, cellsRead]
      · simp only [hb, if_false, cellsRead]
        by_cases hxa : x < a
        · simp [hxa, show x ≠ a by omega, show x < k by omega]
        · by_cases hxe : x = a
          · simp [hxe]
          · simp [hxa, hxe]
    · simp only [hak, if_false]
      by_cases hae : a = k
      · subst hae
        simp only [if_true]
        by_cases hb : b = d
        · simp only [hb, if_true]
          by_cases hxa : x = a
          · subst hxa
            simp [cellsRead_below hm (by omega : x < x + 1)]
          · simp only [hxa, if_false, cellsRead]
            by_cases hlt : x < a
            · simp [hlt, cellsRead_below hm (by omega : x < a + 1)]
            · simp [hlt]
        · by_cases hlt : x < a
          · simp [hb, cellsRead, hlt, show x ≠ a by omega]
          · by_cases hxa : x = a
            · simp [hb, cellsRead, hxa]
            · simp [hb, cellsRead, hlt, hxa]
      · simp only [hae, if_false, cellsRead]
        by_cases hlt : x < k
        · simp [hlt, show x ≠ a by omega]
        · by_cases hxk : x = k
          · subst hxk
            simp [show ¬x = a by omega]
          · simp only [hlt, hxk, if_false]
            exact ih hm

/-- The cells after a write are old ones, or stand at the written key. -/
theorem mem_cellsWrite {a : Nat} {b : BitVec n} {m : List (Nat × BitVec n)} {c : Nat × BitVec n}
    (h : c ∈ cellsWrite d m a b) : c ∈ m ∨ c.1 = a := by
  induction m with
  | nil =>
    simp only [cellsWrite] at h
    split at h <;> simp_all
  | cons e m ih =>
    obtain ⟨k, y⟩ := e
    simp only [cellsWrite] at h
    split at h
    · split at h <;> simp_all
      rcases h with h | h | h <;> simp_all
    · split at h
      · split at h <;> simp_all
        rcases h with h | h <;> simp_all
      · simp only [List.mem_cons] at h ⊢
        rcases h with h | h
        · exact .inl (.inl h)
        · rcases ih h with h | h
          · exact .inl (.inr h)
          · exact .inr h

/-- Two canonical lists that read the same are the same list. -/
theorem cells_ext {lo : Nat} {m m' : List (Nat × BitVec n)} (h : cellsWf d lo m = true) (h' : cellsWf d lo m' = true)
    (hr : ∀ a, cellsRead d m a = cellsRead d m' a) : m = m' := by
  induction m generalizing lo m' with
  | nil =>
    cases m' with
    | nil => rfl
    | cons c m' =>
      simp only [cellsWf, Bool.and_eq_true, decide_eq_true_eq] at h'
      have := hr c.1
      simp only [cellsRead, Nat.lt_irrefl, if_false, if_true] at this
      simp [← this] at h'
  | cons c m ih =>
    simp only [cellsWf, Bool.and_eq_true, decide_eq_true_eq] at h
    cases m' with
    | nil =>
      have := hr c.1
      simp only [cellsRead, Nat.lt_irrefl, if_false, if_true] at this
      simp [this] at h
    | cons c' m' =>
      simp only [cellsWf, Bool.and_eq_true, decide_eq_true_eq] at h'
      have hk : c.1 = c'.1 := by
        rcases Nat.lt_trichotomy c.1 c'.1 with hlt | he | hgt
        · have := hr c.1
          simp [cellsRead, hlt] at this
          simp [this] at h
        · exact he
        · have := hr c'.1
          simp [cellsRead, hgt] at this
          simp [← this] at h'
      have hv : c.2 = c'.2 := by
        have := hr c.1
        simpa [cellsRead, ← hk] using this
      have : c = c' := Prod.ext hk hv
      subst this
      congr 1
      refine ih h.2 h'.2 fun a => ?_
      rcases Nat.lt_or_ge a (c.1 + 1) with hlt | hge
      · rw [cellsRead_below h.2 hlt, cellsRead_below h'.2 hlt]
      · have := hr a
        simpa [cellsRead, show ¬a < c.1 by omega, show ¬a = c.1 by omega] using this

/-! ## Bytes -/

theorem Memory.wf_nil : Memory.wf [] = true := rfl

theorem Memory.wf_write {m : Memory} (h : m.wf = true) (a : Nat) (b : Byte) : (m.write a b).wf = true :=
  cellsWf_write h (Nat.zero_le a)

theorem Memory.read_write {m : Memory} (h : m.wf = true) (a x : Nat) (b : Byte) :
    (m.write a b).read x = if x = a then b else m.read x := cellsRead_write h x

theorem Memory.mem_write {m : Memory} {a : Nat} {b : Byte} {c : Host.Cell} (h : c ∈ m.write a b) : c ∈ m ∨ c.1 = a :=
  mem_cellsWrite h

/-- Memories in canonical form that read the same at every address are equal. -/
theorem Memory.ext_read {m m' : Memory} (h : m.wf = true) (h' : m'.wf = true) (hr : ∀ a, m.read a = m'.read a) : m = m' :=
  cells_ext h h' hr

theorem Memory.wf_writeBE {m : Memory} (h : m.wf = true) (a n : Nat) (v : Dword) : (m.writeBE a n v).wf = true := by
  induction n generalizing v with
  | zero => exact h
  | succ n ih => exact Memory.wf_write (ih _) _ _

/-- Byte `x` after a big-endian store of `n` bytes at `a`. -/
theorem Memory.read_writeBE {m : Memory} (h : m.wf = true) (a n x : Nat) (v : Dword) :
    (m.writeBE a n v).read x =
      if a ≤ x ∧ x < a + n then (v >>> (8 * (a + n - 1 - x))).setWidth 8 else m.read x := by
  induction n generalizing v with
  | zero => simp [Memory.writeBE, show ¬(a ≤ x ∧ x < a) by omega]
  | succ n ih =>
    rw [Memory.writeBE, Memory.read_write (Memory.wf_writeBE h _ _ _), ih]
    by_cases hx : x = a + n
    · subst hx; simp
    · by_cases hin : a ≤ x ∧ x < a + n
      · rw [if_neg hx, if_pos hin, if_pos (by omega), ← BitVec.shiftRight_add]
        congr 2; omega
      · rw [if_neg hx, if_neg hin, if_neg (by omega)]

theorem Memory.mem_writeBE {m : Memory} {a n : Nat} {v : Dword} {c : Host.Cell} (h : c ∈ m.writeBE a n v) :
    c ∈ m ∨ a ≤ c.1 ∧ c.1 < a + n := by
  induction n generalizing v with
  | zero => exact .inl h
  | succ n ih =>
    rcases Memory.mem_write h with h | h
    · rcases ih h with h | h
      · exact .inl h
      · exact .inr (by omega)
    · exact .inr (by omega)

/-- Byte `i` of the big-endian value of `n` bytes. -/
theorem Memory.readBE_byte (m : Memory) (a : Nat) {n i : Nat} (hn : n ≤ 8) (hi : i < n) :
    (m.readBE a n).extractLsb' (8 * (n - 1 - i)) 8 = m.read (a + i) := by
  induction n with
  | zero => omega
  | succ n ih =>
    rw [Memory.readBE]
    by_cases h : i = n
    · subst h
      ext j hj
      simp [show j < 8 by omega, show j < 64 by omega]
    · have := ih (by omega) (by omega)
      rw [← this]
      ext j hj
      simp only [BitVec.getElem_extractLsb', BitVec.getLsbD_or, BitVec.getLsbD_shiftLeft, BitVec.getLsbD_setWidth]
      rw [BitVec.getLsbD_of_ge (m.read (a + n)) _ (by omega)]
      simp [show ¬(8 * (n - i) + j < 8) by omega, show 8 * (n - i) + j - 8 = 8 * (n - 1 - i) + j by omega,
        show 8 * (n - i) + j < 64 by omega]

/-- A value of `n` bytes has no bit beyond them. -/
theorem Memory.readBE_lt (m : Memory) (a : Nat) {n : Nat} (hn : n ≤ 8) : (m.readBE a n).toNat < 2 ^ (8 * n) := by
  induction n with
  | zero => simp [Memory.readBE]
  | succ n ih =>
    have h := ih (by omega)
    rw [Memory.readBE, BitVec.toNat_or, BitVec.toNat_shiftLeft, BitVec.toNat_setWidth]
    have hb := (m.read (a + n)).isLt
    have e : 2 ^ (8 * (n + 1)) = 2 ^ (8 * n) * 256 := by rw [show 8 * (n + 1) = 8 * n + 8 by omega, Nat.pow_add]
    refine Nat.or_lt_two_pow ?_ ?_
    · refine Nat.lt_of_le_of_lt (Nat.mod_le _ _) ?_
      rw [Nat.shiftLeft_eq, e]
      omega
    · refine Nat.lt_of_le_of_lt (Nat.mod_le _ _) ?_
      have : 1 ≤ 2 ^ (8 * n) := Nat.one_le_two_pow
      omega

/-- Reading depends on the bytes read only. -/
theorem Memory.readBE_congr {m m' : Memory} {a n : Nat} (h : ∀ i < n, m'.read (a + i) = m.read (a + i)) :
    m'.readBE a n = m.readBE a n := by
  induction n with
  | zero => rfl
  | succ n ih =>
    rw [Memory.readBE, Memory.readBE, ih fun i hi => h i (by omega), h n (by omega)]

theorem reset_mem_wf : State.reset.mem.wf = true := rfl

end Sys2Proof.Machine
end

