-- ==== Sys2Proof/Laws/State.lean ====
section
/-! SUPPORT. One simp lemma per field of State and per update function, so that no proof unfolds a record update. -/

namespace Sys2Proof.Machine

/-! ## State.setGpr -/

@[simp] theorem setGpr_hi (s : State) (r : Reg) (v : Dword) : (s.setGpr r v).hi = s.hi := by unfold State.setGpr; split <;> rfl
@[simp] theorem setGpr_lo (s : State) (r : Reg) (v : Dword) : (s.setGpr r v).lo = s.lo := by unfold State.setGpr; split <;> rfl
@[simp] theorem setGpr_prevPc (s : State) (r : Reg) (v : Dword) : (s.setGpr r v).prevPc = s.prevPc := by unfold State.setGpr; split <;> rfl
@[simp] theorem setGpr_pc (s : State) (r : Reg) (v : Dword) : (s.setGpr r v).pc = s.pc := by unfold State.setGpr; split <;> rfl
@[simp] theorem setGpr_nextPc (s : State) (r : Reg) (v : Dword) : (s.setGpr r v).nextPc = s.nextPc := by unfold State.setGpr; split <;> rfl
@[simp] theorem setGpr_delaySlot (s : State) (r : Reg) (v : Dword) : (s.setGpr r v).delaySlot = s.delaySlot := by unfold State.setGpr; split <;> rfl
@[simp] theorem setGpr_prevDelaySlot (s : State) (r : Reg) (v : Dword) : (s.setGpr r v).prevDelaySlot = s.prevDelaySlot := by unfold State.setGpr; split <;> rfl
@[simp] theorem setGpr_llbit (s : State) (r : Reg) (v : Dword) : (s.setGpr r v).llbit = s.llbit := by unfold State.setGpr; split <;> rfl
@[simp] theorem setGpr_fatal (s : State) (r : Reg) (v : Dword) : (s.setGpr r v).fatal = s.fatal := by unfold State.setGpr; split <;> rfl
@[simp] theorem setGpr_cop0 (s : State) (r : Reg) (v : Dword) : (s.setGpr r v).cop0 = s.cop0 := by unfold State.setGpr; split <;> rfl
@[simp] theorem setGpr_tlb (s : State) (r : Reg) (v : Dword) : (s.setGpr r v).tlb = s.tlb := by unfold State.setGpr; split <;> rfl
@[simp] theorem setGpr_fcr31 (s : State) (r : Reg) (v : Dword) : (s.setGpr r v).fcr31 = s.fcr31 := by unfold State.setGpr; split <;> rfl
@[simp] theorem setGpr_fgrs (s : State) (r : Reg) (v : Dword) : (s.setGpr r v).fgrs = s.fgrs := by unfold State.setGpr; split <;> rfl
@[simp] theorem setGpr_mem (s : State) (r : Reg) (v : Dword) : (s.setGpr r v).mem = s.mem := by unfold State.setGpr; split <;> rfl
@[simp] theorem setGpr_mi (s : State) (r : Reg) (v : Dword) : (s.setGpr r v).mi = s.mi := by unfold State.setGpr; split <;> rfl
@[simp] theorem setGpr_vi (s : State) (r : Reg) (v : Dword) : (s.setGpr r v).vi = s.vi := by unfold State.setGpr; split <;> rfl
@[simp] theorem setGpr_pi (s : State) (r : Reg) (v : Dword) : (s.setGpr r v).pi = s.pi := by unfold State.setGpr; split <;> rfl
@[simp] theorem setGpr_sp (s : State) (r : Reg) (v : Dword) : (s.setGpr r v).sp = s.sp := by unfold State.setGpr; split <;> rfl
@[simp] theorem setGpr_dev (s : State) (r : Reg) (v : Dword) : (s.setGpr r v).dev = s.dev := by unfold State.setGpr; split <;> rfl
@[simp] theorem setGpr_now (s : State) (r : Reg) (v : Dword) : (s.setGpr r v).now = s.now := by unfold State.setGpr; split <;> rfl
@[simp] theorem setGpr_queue (s : State) (r : Reg) (v : Dword) : (s.setGpr r v).queue = s.queue := by unfold State.setGpr; split <;> rfl
@[simp] theorem setGpr_nextSeq (s : State) (r : Reg) (v : Dword) : (s.setGpr r v).nextSeq = s.nextSeq := by unfold State.setGpr; split <;> rfl
@[simp] theorem setGpr_draws (s : State) (r : Reg) (v : Dword) : (s.setGpr r v).draws = s.draws := by unfold State.setGpr; split <;> rfl
@[simp] theorem setGpr_inputs (s : State) (r : Reg) (v : Dword) : (s.setGpr r v).inputs = s.inputs := by unfold State.setGpr; split <;> rfl
@[simp] theorem setGpr_frames (s : State) (r : Reg) (v : Dword) : (s.setGpr r v).frames = s.frames := by unfold State.setGpr; split <;> rfl

/-! ## State.setFgr -/

@[simp] theorem setFgr_gprs (s : State) (r : Reg) (v : Dword) : (s.setFgr r v).gprs = s.gprs := rfl
@[simp] theorem setFgr_hi (s : State) (r : Reg) (v : Dword) : (s.setFgr r v).hi = s.hi := rfl
@[simp] theorem setFgr_lo (s : State) (r : Reg) (v : Dword) : (s.setFgr r v).lo = s.lo := rfl
@[simp] theorem setFgr_prevPc (s : State) (r : Reg) (v : Dword) : (s.setFgr r v).prevPc = s.prevPc := rfl
@[simp] theorem setFgr_pc (s : State) (r : Reg) (v : Dword) : (s.setFgr r v).pc = s.pc := rfl
@[simp] theorem setFgr_nextPc (s : State) (r : Reg) (v : Dword) : (s.setFgr r v).nextPc = s.nextPc := rfl
@[simp] theorem setFgr_delaySlot (s : State) (r : Reg) (v : Dword) : (s.setFgr r v).delaySlot = s.delaySlot := rfl
@[simp] theorem setFgr_prevDelaySlot (s : State) (r : Reg) (v : Dword) : (s.setFgr r v).prevDelaySlot = s.prevDelaySlot := rfl
@[simp] theorem setFgr_llbit (s : State) (r : Reg) (v : Dword) : (s.setFgr r v).llbit = s.llbit := rfl
@[simp] theorem setFgr_fatal (s : State) (r : Reg) (v : Dword) : (s.setFgr r v).fatal = s.fatal := rfl
@[simp] theorem setFgr_cop0 (s : State) (r : Reg) (v : Dword) : (s.setFgr r v).cop0 = s.cop0 := rfl
@[simp] theorem setFgr_tlb (s : State) (r : Reg) (v : Dword) : (s.setFgr r v).tlb = s.tlb := rfl
@[simp] theorem setFgr_fcr31 (s : State) (r : Reg) (v : Dword) : (s.setFgr r v).fcr31 = s.fcr31 := rfl
@[simp] theorem setFgr_mem (s : State) (r : Reg) (v : Dword) : (s.setFgr r v).mem = s.mem := rfl
@[simp] theorem setFgr_mi (s : State) (r : Reg) (v : Dword) : (s.setFgr r v).mi = s.mi := rfl
@[simp] theorem setFgr_vi (s : State) (r : Reg) (v : Dword) : (s.setFgr r v).vi = s.vi := rfl
@[simp] theorem setFgr_pi (s : State) (r : Reg) (v : Dword) : (s.setFgr r v).pi = s.pi := rfl
@[simp] theorem setFgr_sp (s : State) (r : Reg) (v : Dword) : (s.setFgr r v).sp = s.sp := rfl
@[simp] theorem setFgr_dev (s : State) (r : Reg) (v : Dword) : (s.setFgr r v).dev = s.dev := rfl
@[simp] theorem setFgr_now (s : State) (r : Reg) (v : Dword) : (s.setFgr r v).now = s.now := rfl
@[simp] theorem setFgr_queue (s : State) (r : Reg) (v : Dword) : (s.setFgr r v).queue = s.queue := rfl
@[simp] theorem setFgr_nextSeq (s : State) (r : Reg) (v : Dword) : (s.setFgr r v).nextSeq = s.nextSeq := rfl
@[simp] theorem setFgr_draws (s : State) (r : Reg) (v : Dword) : (s.setFgr r v).draws = s.draws := rfl
@[simp] theorem setFgr_inputs (s : State) (r : Reg) (v : Dword) : (s.setFgr r v).inputs = s.inputs := rfl
@[simp] theorem setFgr_frames (s : State) (r : Reg) (v : Dword) : (s.setFgr r v).frames = s.frames := rfl

/-! ## State.setHiLo -/

@[simp] theorem setHiLo_gprs (s : State) (a b : Dword) : (s.setHiLo a b).gprs = s.gprs := rfl
@[simp] theorem setHiLo_prevPc (s : State) (a b : Dword) : (s.setHiLo a b).prevPc = s.prevPc := rfl
@[simp] theorem setHiLo_pc (s : State) (a b : Dword) : (s.setHiLo a b).pc = s.pc := rfl
@[simp] theorem setHiLo_nextPc (s : State) (a b : Dword) : (s.setHiLo a b).nextPc = s.nextPc := rfl
@[simp] theorem setHiLo_delaySlot (s : State) (a b : Dword) : (s.setHiLo a b).delaySlot = s.delaySlot := rfl
@[simp] theorem setHiLo_prevDelaySlot (s : State) (a b : Dword) : (s.setHiLo a b).prevDelaySlot = s.prevDelaySlot := rfl
@[simp] theorem setHiLo_llbit (s : State) (a b : Dword) : (s.setHiLo a b).llbit = s.llbit := rfl
@[simp] theorem setHiLo_fatal (s : State) (a b : Dword) : (s.setHiLo a b).fatal = s.fatal := rfl
@[simp] theorem setHiLo_cop0 (s : State) (a b : Dword) : (s.setHiLo a b).cop0 = s.cop0 := rfl
@[simp] theorem setHiLo_tlb (s : State) (a b : Dword) : (s.setHiLo a b).tlb = s.tlb := rfl
@[simp] theorem setHiLo_fcr31 (s : State) (a b : Dword) : (s.setHiLo a b).fcr31 = s.fcr31 := rfl
@[simp] theorem setHiLo_fgrs (s : State) (a b : Dword) : (s.setHiLo a b).fgrs = s.fgrs := rfl
@[simp] theorem setHiLo_mem (s : State) (a b : Dword) : (s.setHiLo a b).mem = s.mem := rfl
@[simp] theorem setHiLo_mi (s : State) (a b : Dword) : (s.setHiLo a b).mi = s.mi := rfl
@[simp] theorem setHiLo_vi (s : State) (a b : Dword) : (s.setHiLo a b).vi = s.vi := rfl
@[simp] theorem setHiLo_pi (s : State) (a b : Dword) : (s.setHiLo a b).pi = s.pi := rfl
@[simp] theorem setHiLo_sp (s : State) (a b : Dword) : (s.setHiLo a b).sp = s.sp := rfl
@[simp] theorem setHiLo_dev (s : State) (a b : Dword) : (s.setHiLo a b).dev = s.dev := rfl
@[simp] theorem setHiLo_now (s : State) (a b : Dword) : (s.setHiLo a b).now = s.now := rfl
@[simp] theorem setHiLo_queue (s : State) (a b : Dword) : (s.setHiLo a b).queue = s.queue := rfl
@[simp] theorem setHiLo_nextSeq (s : State) (a b : Dword) : (s.setHiLo a b).nextSeq = s.nextSeq := rfl
@[simp] theorem setHiLo_draws (s : State) (a b : Dword) : (s.setHiLo a b).draws = s.draws := rfl
@[simp] theorem setHiLo_inputs (s : State) (a b : Dword) : (s.setHiLo a b).inputs = s.inputs := rfl
@[simp] theorem setHiLo_frames (s : State) (a b : Dword) : (s.setHiLo a b).frames = s.frames := rfl
@[simp] theorem setHiLo_hi (s : State) (a b : Dword) : (s.setHiLo a b).hi = a := rfl
@[simp] theorem setHiLo_lo (s : State) (a b : Dword) : (s.setHiLo a b).lo = b := rfl

/-! ## State.redirect -/

@[simp] theorem redirect_gprs (s : State) (t : Dword) : (s.redirect t).gprs = s.gprs := rfl
@[simp] theorem redirect_hi (s : State) (t : Dword) : (s.redirect t).hi = s.hi := rfl
@[simp] theorem redirect_lo (s : State) (t : Dword) : (s.redirect t).lo = s.lo := rfl
@[simp] theorem redirect_prevPc (s : State) (t : Dword) : (s.redirect t).prevPc = s.prevPc := rfl
@[simp] theorem redirect_delaySlot (s : State) (t : Dword) : (s.redirect t).delaySlot = s.delaySlot := rfl
@[simp] theorem redirect_prevDelaySlot (s : State) (t : Dword) : (s.redirect t).prevDelaySlot = s.prevDelaySlot := rfl
@[simp] theorem redirect_llbit (s : State) (t : Dword) : (s.redirect t).llbit = s.llbit := rfl
@[simp] theorem redirect_fatal (s : State) (t : Dword) : (s.redirect t).fatal = s.fatal := rfl
@[simp] theorem redirect_cop0 (s : State) (t : Dword) : (s.redirect t).cop0 = s.cop0 := rfl
@[simp] theorem redirect_tlb (s : State) (t : Dword) : (s.redirect t).tlb = s.tlb := rfl
@[simp] theorem redirect_fcr31 (s : State) (t : Dword) : (s.redirect t).fcr31 = s.fcr31 := rfl
@[simp] theorem redirect_fgrs (s : State) (t : Dword) : (s.redirect t).fgrs = s.fgrs := rfl
@[simp] theorem redirect_mem (s : State) (t : Dword) : (s.redirect t).mem = s.mem := rfl
@[simp] theorem redirect_mi (s : State) (t : Dword) : (s.redirect t).mi = s.mi := rfl
@[simp] theorem redirect_vi (s : State) (t : Dword) : (s.redirect t).vi = s.vi := rfl
@[simp] theorem redirect_pi (s : State) (t : Dword) : (s.redirect t).pi = s.pi := rfl
@[simp] theorem redirect_sp (s : State) (t : Dword) : (s.redirect t).sp = s.sp := rfl
@[simp] theorem redirect_dev (s : State) (t : Dword) : (s.redirect t).dev = s.dev := rfl
@[simp] theorem redirect_now (s : State) (t : Dword) : (s.redirect t).now = s.now := rfl
@[simp] theorem redirect_queue (s : State) (t : Dword) : (s.redirect t).queue = s.queue := rfl
@[simp] theorem redirect_nextSeq (s : State) (t : Dword) : (s.redirect t).nextSeq = s.nextSeq := rfl
@[simp] theorem redirect_draws (s : State) (t : Dword) : (s.redirect t).draws = s.draws := rfl
@[simp] theorem redirect_inputs (s : State) (t : Dword) : (s.redirect t).inputs = s.inputs := rfl
@[simp] theorem redirect_frames (s : State) (t : Dword) : (s.redirect t).frames = s.frames := rfl
@[simp] theorem redirect_pc (s : State) (t : Dword) : (s.redirect t).pc = t := rfl
@[simp] theorem redirect_nextPc (s : State) (t : Dword) : (s.redirect t).nextPc = t + 4#64 := rfl

/-! ## recompute -/

@[simp] theorem recompute_gprs (s : State) : (recompute s).gprs = s.gprs := rfl
@[simp] theorem recompute_hi (s : State) : (recompute s).hi = s.hi := rfl
@[simp] theorem recompute_lo (s : State) : (recompute s).lo = s.lo := rfl
@[simp] theorem recompute_prevPc (s : State) : (recompute s).prevPc = s.prevPc := rfl
@[simp] theorem recompute_pc (s : State) : (recompute s).pc = s.pc := rfl
@[simp] theorem recompute_nextPc (s : State) : (recompute s).nextPc = s.nextPc := rfl
@[simp] theorem recompute_delaySlot (s : State) : (recompute s).delaySlot = s.delaySlot := rfl
@[simp] theorem recompute_prevDelaySlot (s : State) : (recompute s).prevDelaySlot = s.prevDelaySlot := rfl
@[simp] theorem recompute_llbit (s : State) : (recompute s).llbit = s.llbit := rfl
@[simp] theorem recompute_fatal (s : State) : (recompute s).fatal = s.fatal := rfl
@[simp] theorem recompute_tlb (s : State) : (recompute s).tlb = s.tlb := rfl
@[simp] theorem recompute_fcr31 (s : State) : (recompute s).fcr31 = s.fcr31 := rfl
@[simp] theorem recompute_fgrs (s : State) : (recompute s).fgrs = s.fgrs := rfl
@[simp] theorem recompute_mem (s : State) : (recompute s).mem = s.mem := rfl
@[simp] theorem recompute_mi (s : State) : (recompute s).mi = s.mi := rfl
@[simp] theorem recompute_vi (s : State) : (recompute s).vi = s.vi := rfl
@[simp] theorem recompute_pi (s : State) : (recompute s).pi = s.pi := rfl
@[simp] theorem recompute_sp (s : State) : (recompute s).sp = s.sp := rfl
@[simp] theorem recompute_dev (s : State) : (recompute s).dev = s.dev := rfl
@[simp] theorem recompute_now (s : State) : (recompute s).now = s.now := rfl
@[simp] theorem recompute_queue (s : State) : (recompute s).queue = s.queue := rfl
@[simp] theorem recompute_nextSeq (s : State) : (recompute s).nextSeq = s.nextSeq := rfl
@[simp] theorem recompute_draws (s : State) : (recompute s).draws = s.draws := rfl
@[simp] theorem recompute_inputs (s : State) : (recompute s).inputs = s.inputs := rfl
@[simp] theorem recompute_frames (s : State) : (recompute s).frames = s.frames := rfl
@[simp] theorem recompute_cop0_index (s : State) : (recompute s).cop0.index = s.cop0.index := rfl
@[simp] theorem recompute_cop0_entryLo0 (s : State) : (recompute s).cop0.entryLo0 = s.cop0.entryLo0 := rfl
@[simp] theorem recompute_cop0_entryLo1 (s : State) : (recompute s).cop0.entryLo1 = s.cop0.entryLo1 := rfl
@[simp] theorem recompute_cop0_context (s : State) : (recompute s).cop0.context = s.cop0.context := rfl
@[simp] theorem recompute_cop0_pageMask (s : State) : (recompute s).cop0.pageMask = s.cop0.pageMask := rfl
@[simp] theorem recompute_cop0_wired (s : State) : (recompute s).cop0.wired = s.cop0.wired := rfl
@[simp] theorem recompute_cop0_badVAddr (s : State) : (recompute s).cop0.badVAddr = s.cop0.badVAddr := rfl
@[simp] theorem recompute_cop0_count (s : State) : (recompute s).cop0.count = s.cop0.count := rfl
@[simp] theorem recompute_cop0_entryHi (s : State) : (recompute s).cop0.entryHi = s.cop0.entryHi := rfl
@[simp] theorem recompute_cop0_compare (s : State) : (recompute s).cop0.compare = s.cop0.compare := rfl
@[simp] theorem recompute_cop0_status (s : State) : (recompute s).cop0.status = s.cop0.status := rfl
@[simp] theorem recompute_cop0_epc (s : State) : (recompute s).cop0.epc = s.cop0.epc := rfl
@[simp] theorem recompute_cop0_config (s : State) : (recompute s).cop0.config = s.cop0.config := rfl
@[simp] theorem recompute_cop0_llAddr (s : State) : (recompute s).cop0.llAddr = s.cop0.llAddr := rfl
@[simp] theorem recompute_cop0_watchLo (s : State) : (recompute s).cop0.watchLo = s.cop0.watchLo := rfl
@[simp] theorem recompute_cop0_watchHi (s : State) : (recompute s).cop0.watchHi = s.cop0.watchHi := rfl
@[simp] theorem recompute_cop0_xContext (s : State) : (recompute s).cop0.xContext = s.cop0.xContext := rfl
@[simp] theorem recompute_cop0_errorEpc (s : State) : (recompute s).cop0.errorEpc = s.cop0.errorEpc := rfl

/-! ## setMiIntr -/

@[simp] theorem setMiIntr_gprs (k : Nat) (b : Bool) (s : State) : (setMiIntr k b s).gprs = s.gprs := rfl
@[simp] theorem setMiIntr_hi (k : Nat) (b : Bool) (s : State) : (setMiIntr k b s).hi = s.hi := rfl
@[simp] theorem setMiIntr_lo (k : Nat) (b : Bool) (s : State) : (setMiIntr k b s).lo = s.lo := rfl
@[simp] theorem setMiIntr_prevPc (k : Nat) (b : Bool) (s : State) : (setMiIntr k b s).prevPc = s.prevPc := rfl
@[simp] theorem setMiIntr_pc (k : Nat) (b : Bool) (s : State) : (setMiIntr k b s).pc = s.pc := rfl
@[simp] theorem setMiIntr_nextPc (k : Nat) (b : Bool) (s : State) : (setMiIntr k b s).nextPc = s.nextPc := rfl
@[simp] theorem setMiIntr_delaySlot (k : Nat) (b : Bool) (s : State) : (setMiIntr k b s).delaySlot = s.delaySlot := rfl
@[simp] theorem setMiIntr_prevDelaySlot (k : Nat) (b : Bool) (s : State) : (setMiIntr k b s).prevDelaySlot = s.prevDelaySlot := rfl
@[simp] theorem setMiIntr_llbit (k : Nat) (b : Bool) (s : State) : (setMiIntr k b s).llbit = s.llbit := rfl
@[simp] theorem setMiIntr_fatal (k : Nat) (b : Bool) (s : State) : (setMiIntr k b s).fatal = s.fatal := rfl
@[simp] theorem setMiIntr_tlb (k : Nat) (b : Bool) (s : State) : (setMiIntr k b s).tlb = s.tlb := rfl
@[simp] theorem setMiIntr_fcr31 (k : Nat) (b : Bool) (s : State) : (setMiIntr k b s).fcr31 = s.fcr31 := rfl
@[simp] theorem setMiIntr_fgrs (k : Nat) (b : Bool) (s : State) : (setMiIntr k b s).fgrs = s.fgrs := rfl
@[simp] theorem setMiIntr_mem (k : Nat) (b : Bool) (s : State) : (setMiIntr k b s).mem = s.mem := rfl
@[simp] theorem setMiIntr_vi (k : Nat) (b : Bool) (s : State) : (setMiIntr k b s).vi = s.vi := rfl
@[simp] theorem setMiIntr_pi (k : Nat) (b : Bool) (s : State) : (setMiIntr k b s).pi = s.pi := rfl
@[simp] theorem setMiIntr_sp (k : Nat) (b : Bool) (s : State) : (setMiIntr k b s).sp = s.sp := rfl
@[simp] theorem setMiIntr_dev (k : Nat) (b : Bool) (s : State) : (setMiIntr k b s).dev = s.dev := rfl
@[simp] theorem setMiIntr_now (k : Nat) (b : Bool) (s : State) : (setMiIntr k b s).now = s.now := rfl
@[simp] theorem setMiIntr_queue (k : Nat) (b : Bool) (s : State) : (setMiIntr k b s).queue = s.queue := rfl
@[simp] theorem setMiIntr_nextSeq (k : Nat) (b : Bool) (s : State) : (setMiIntr k b s).nextSeq = s.nextSeq := rfl
@[simp] theorem setMiIntr_draws (k : Nat) (b : Bool) (s : State) : (setMiIntr k b s).draws = s.draws := rfl
@[simp] theorem setMiIntr_inputs (k : Nat) (b : Bool) (s : State) : (setMiIntr k b s).inputs = s.inputs := rfl
@[simp] theorem setMiIntr_frames (k : Nat) (b : Bool) (s : State) : (setMiIntr k b s).frames = s.frames := rfl
@[simp] theorem setMiIntr_cop0_index (k : Nat) (b : Bool) (s : State) : (setMiIntr k b s).cop0.index = s.cop0.index := rfl
@[simp] theorem setMiIntr_cop0_entryLo0 (k : Nat) (b : Bool) (s : State) : (setMiIntr k b s).cop0.entryLo0 = s.cop0.entryLo0 := rfl
@[simp] theorem setMiIntr_cop0_entryLo1 (k : Nat) (b : Bool) (s : State) : (setMiIntr k b s).cop0.entryLo1 = s.cop0.entryLo1 := rfl
@[simp] theorem setMiIntr_cop0_context (k : Nat) (b : Bool) (s : State) : (setMiIntr k b s).cop0.context = s.cop0.context := rfl
@[simp] theorem setMiIntr_cop0_pageMask (k : Nat) (b : Bool) (s : State) : (setMiIntr k b s).cop0.pageMask = s.cop0.pageMask := rfl
@[simp] theorem setMiIntr_cop0_wired (k : Nat) (b : Bool) (s : State) : (setMiIntr k b s).cop0.wired = s.cop0.wired := rfl
@[simp] theorem setMiIntr_cop0_badVAddr (k : Nat) (b : Bool) (s : State) : (setMiIntr k b s).cop0.badVAddr = s.cop0.badVAddr := rfl
@[simp] theorem setMiIntr_cop0_count (k : Nat) (b : Bool) (s : State) : (setMiIntr k b s).cop0.count = s.cop0.count := rfl
@[simp] theorem setMiIntr_cop0_entryHi (k : Nat) (b : Bool) (s : State) : (setMiIntr k b s).cop0.entryHi = s.cop0.entryHi := rfl
@[simp] theorem setMiIntr_cop0_compare (k : Nat) (b : Bool) (s : State) : (setMiIntr k b s).cop0.compare = s.cop0.compare := rfl
@[simp] theorem setMiIntr_cop0_status (k : Nat) (b : Bool) (s : State) : (setMiIntr k b s).cop0.status = s.cop0.status := rfl
@[simp] theorem setMiIntr_cop0_epc (k : Nat) (b : Bool) (s : State) : (setMiIntr k b s).cop0.epc = s.cop0.epc := rfl
@[simp] theorem setMiIntr_cop0_config (k : Nat) (b : Bool) (s : State) : (setMiIntr k b s).cop0.config = s.cop0.config := rfl
@[simp] theorem setMiIntr_cop0_llAddr (k : Nat) (b : Bool) (s : State) : (setMiIntr k b s).cop0.llAddr = s.cop0.llAddr := rfl
@[simp] theorem setMiIntr_cop0_watchLo (k : Nat) (b : Bool) (s : State) : (setMiIntr k b s).cop0.watchLo = s.cop0.watchLo := rfl
@[simp] theorem setMiIntr_cop0_watchHi (k : Nat) (b : Bool) (s : State) : (setMiIntr k b s).cop0.watchHi = s.cop0.watchHi := rfl
@[simp] theorem setMiIntr_cop0_xContext (k : Nat) (b : Bool) (s : State) : (setMiIntr k b s).cop0.xContext = s.cop0.xContext := rfl
@[simp] theorem setMiIntr_cop0_errorEpc (k : Nat) (b : Bool) (s : State) : (setMiIntr k b s).cop0.errorEpc = s.cop0.errorEpc := rfl
@[simp] theorem setMiIntr_mi_intr (k : Nat) (b : Bool) (s : State) : (setMiIntr k b s).mi.intr = writeBit s.mi.intr k b := rfl
@[simp] theorem setMiIntr_mi_mask (k : Nat) (b : Bool) (s : State) : (setMiIntr k b s).mi.mask = s.mi.mask := rfl

/-! ## setTimer -/

@[simp] theorem setTimer_gprs (d : Nat) (k : EventKind) (s : State) : (setTimer d k s).gprs = s.gprs := rfl
@[simp] theorem setTimer_hi (d : Nat) (k : EventKind) (s : State) : (setTimer d k s).hi = s.hi := rfl
@[simp] theorem setTimer_lo (d : Nat) (k : EventKind) (s : State) : (setTimer d k s).lo = s.lo := rfl
@[simp] theorem setTimer_prevPc (d : Nat) (k : EventKind) (s : State) : (setTimer d k s).prevPc = s.prevPc := rfl
@[simp] theorem setTimer_pc (d : Nat) (k : EventKind) (s : State) : (setTimer d k s).pc = s.pc := rfl
@[simp] theorem setTimer_nextPc (d : Nat) (k : EventKind) (s : State) : (setTimer d k s).nextPc = s.nextPc := rfl
@[simp] theorem setTimer_delaySlot (d : Nat) (k : EventKind) (s : State) : (setTimer d k s).delaySlot = s.delaySlot := rfl
@[simp] theorem setTimer_prevDelaySlot (d : Nat) (k : EventKind) (s : State) : (setTimer d k s).prevDelaySlot = s.prevDelaySlot := rfl
@[simp] theorem setTimer_llbit (d : Nat) (k : EventKind) (s : State) : (setTimer d k s).llbit = s.llbit := rfl
@[simp] theorem setTimer_fatal (d : Nat) (k : EventKind) (s : State) : (setTimer d k s).fatal = s.fatal := rfl
@[simp] theorem setTimer_cop0 (d : Nat) (k : EventKind) (s : State) : (setTimer d k s).cop0 = s.cop0 := rfl
@[simp] theorem setTimer_tlb (d : Nat) (k : EventKind) (s : State) : (setTimer d k s).tlb = s.tlb := rfl
@[simp] theorem setTimer_fcr31 (d : Nat) (k : EventKind) (s : State) : (setTimer d k s).fcr31 = s.fcr31 := rfl
@[simp] theorem setTimer_fgrs (d : Nat) (k : EventKind) (s : State) : (setTimer d k s).fgrs = s.fgrs := rfl
@[simp] theorem setTimer_mem (d : Nat) (k : EventKind) (s : State) : (setTimer d k s).mem = s.mem := rfl
@[simp] theorem setTimer_mi (d : Nat) (k : EventKind) (s : State) : (setTimer d k s).mi = s.mi := rfl
@[simp] theorem setTimer_vi (d : Nat) (k : EventKind) (s : State) : (setTimer d k s).vi = s.vi := rfl
@[simp] theorem setTimer_pi (d : Nat) (k : EventKind) (s : State) : (setTimer d k s).pi = s.pi := rfl
@[simp] theorem setTimer_sp (d : Nat) (k : EventKind) (s : State) : (setTimer d k s).sp = s.sp := rfl
@[simp] theorem setTimer_dev (d : Nat) (k : EventKind) (s : State) : (setTimer d k s).dev = s.dev := rfl
@[simp] theorem setTimer_now (d : Nat) (k : EventKind) (s : State) : (setTimer d k s).now = s.now := rfl
@[simp] theorem setTimer_draws (d : Nat) (k : EventKind) (s : State) : (setTimer d k s).draws = s.draws := rfl
@[simp] theorem setTimer_inputs (d : Nat) (k : EventKind) (s : State) : (setTimer d k s).inputs = s.inputs := rfl
@[simp] theorem setTimer_frames (d : Nat) (k : EventKind) (s : State) : (setTimer d k s).frames = s.frames := rfl
@[simp] theorem setTimer_nextSeq (d : Nat) (k : EventKind) (s : State) : (setTimer d k s).nextSeq = s.nextSeq + 1 := rfl
@[simp] theorem setTimer_queue (d : Nat) (k : EventKind) (s : State) : (setTimer d k s).queue = enqueue { deadline := s.now + d, seq := s.nextSeq, kind := k } s.queue := rfl

/-! ## State.draw -/

@[simp] theorem draw_gprs (s : State) : (s.draw.2).gprs = s.gprs := rfl
@[simp] theorem draw_hi (s : State) : (s.draw.2).hi = s.hi := rfl
@[simp] theorem draw_lo (s : State) : (s.draw.2).lo = s.lo := rfl
@[simp] theorem draw_prevPc (s : State) : (s.draw.2).prevPc = s.prevPc := rfl
@[simp] theorem draw_pc (s : State) : (s.draw.2).pc = s.pc := rfl
@[simp] theorem draw_nextPc (s : State) : (s.draw.2).nextPc = s.nextPc := rfl
@[simp] theorem draw_delaySlot (s : State) : (s.draw.2).delaySlot = s.delaySlot := rfl
@[simp] theorem draw_prevDelaySlot (s : State) : (s.draw.2).prevDelaySlot = s.prevDelaySlot := rfl
@[simp] theorem draw_llbit (s : State) : (s.draw.2).llbit = s.llbit := rfl
@[simp] theorem draw_fatal (s : State) : (s.draw.2).fatal = s.fatal := rfl
@[simp] theorem draw_cop0 (s : State) : (s.draw.2).cop0 = s.cop0 := rfl
@[simp] theorem draw_tlb (s : State) : (s.draw.2).tlb = s.tlb := rfl
@[simp] theorem draw_fcr31 (s : State) : (s.draw.2).fcr31 = s.fcr31 := rfl
@[simp] theorem draw_fgrs (s : State) : (s.draw.2).fgrs = s.fgrs := rfl
@[simp] theorem draw_mem (s : State) : (s.draw.2).mem = s.mem := rfl
@[simp] theorem draw_mi (s : State) : (s.draw.2).mi = s.mi := rfl
@[simp] theorem draw_vi (s : State) : (s.draw.2).vi = s.vi := rfl
@[simp] theorem draw_pi (s : State) : (s.draw.2).pi = s.pi := rfl
@[simp] theorem draw_sp (s : State) : (s.draw.2).sp = s.sp := rfl
@[simp] theorem draw_dev (s : State) : (s.draw.2).dev = s.dev := rfl
@[simp] theorem draw_now (s : State) : (s.draw.2).now = s.now := rfl
@[simp] theorem draw_queue (s : State) : (s.draw.2).queue = s.queue := rfl
@[simp] theorem draw_nextSeq (s : State) : (s.draw.2).nextSeq = s.nextSeq := rfl
@[simp] theorem draw_inputs (s : State) : (s.draw.2).inputs = s.inputs := rfl
@[simp] theorem draw_frames (s : State) : (s.draw.2).frames = s.frames := rfl
@[simp] theorem draw_draws (s : State) : (s.draw.2).draws = s.draws + 1 := rfl

/-! ## storeBytes -/

@[simp] theorem storeBytes_gprs (a : Nat) (w : Width) (v : Dword) (s : State) : (storeBytes a w v s).gprs = s.gprs := by simp only [storeBytes, runSerial, apply_ite State.gprs, ite_self]
@[simp] theorem storeBytes_hi (a : Nat) (w : Width) (v : Dword) (s : State) : (storeBytes a w v s).hi = s.hi := by simp only [storeBytes, runSerial, apply_ite State.hi, ite_self]
@[simp] theorem storeBytes_lo (a : Nat) (w : Width) (v : Dword) (s : State) : (storeBytes a w v s).lo = s.lo := by simp only [storeBytes, runSerial, apply_ite State.lo, ite_self]
@[simp] theorem storeBytes_prevPc (a : Nat) (w : Width) (v : Dword) (s : State) : (storeBytes a w v s).prevPc = s.prevPc := by simp only [storeBytes, runSerial, apply_ite State.prevPc, ite_self]
@[simp] theorem storeBytes_pc (a : Nat) (w : Width) (v : Dword) (s : State) : (storeBytes a w v s).pc = s.pc := by simp only [storeBytes, runSerial, apply_ite State.pc, ite_self]
@[simp] theorem storeBytes_nextPc (a : Nat) (w : Width) (v : Dword) (s : State) : (storeBytes a w v s).nextPc = s.nextPc := by simp only [storeBytes, runSerial, apply_ite State.nextPc, ite_self]
@[simp] theorem storeBytes_delaySlot (a : Nat) (w : Width) (v : Dword) (s : State) : (storeBytes a w v s).delaySlot = s.delaySlot := by simp only [storeBytes, runSerial, apply_ite State.delaySlot, ite_self]
@[simp] theorem storeBytes_prevDelaySlot (a : Nat) (w : Width) (v : Dword) (s : State) : (storeBytes a w v s).prevDelaySlot = s.prevDelaySlot := by simp only [storeBytes, runSerial, apply_ite State.prevDelaySlot, ite_self]
@[simp] theorem storeBytes_llbit (a : Nat) (w : Width) (v : Dword) (s : State) : (storeBytes a w v s).llbit = s.llbit := by simp only [storeBytes, runSerial, apply_ite State.llbit, ite_self]
@[simp] theorem storeBytes_fatal (a : Nat) (w : Width) (v : Dword) (s : State) : (storeBytes a w v s).fatal = s.fatal := by simp only [storeBytes, runSerial, apply_ite State.fatal, ite_self]
@[simp] theorem storeBytes_cop0 (a : Nat) (w : Width) (v : Dword) (s : State) : (storeBytes a w v s).cop0 = s.cop0 := by simp only [storeBytes, runSerial, apply_ite State.cop0, ite_self]
@[simp] theorem storeBytes_tlb (a : Nat) (w : Width) (v : Dword) (s : State) : (storeBytes a w v s).tlb = s.tlb := by simp only [storeBytes, runSerial, apply_ite State.tlb, ite_self]
@[simp] theorem storeBytes_fcr31 (a : Nat) (w : Width) (v : Dword) (s : State) : (storeBytes a w v s).fcr31 = s.fcr31 := by simp only [storeBytes, runSerial, apply_ite State.fcr31, ite_self]
@[simp] theorem storeBytes_fgrs (a : Nat) (w : Width) (v : Dword) (s : State) : (storeBytes a w v s).fgrs = s.fgrs := by simp only [storeBytes, runSerial, apply_ite State.fgrs, ite_self]
@[simp] theorem storeBytes_mi (a : Nat) (w : Width) (v : Dword) (s : State) : (storeBytes a w v s).mi = s.mi := by simp only [storeBytes, runSerial, apply_ite State.mi, ite_self]
@[simp] theorem storeBytes_vi (a : Nat) (w : Width) (v : Dword) (s : State) : (storeBytes a w v s).vi = s.vi := by simp only [storeBytes, runSerial, apply_ite State.vi, ite_self]
@[simp] theorem storeBytes_pi (a : Nat) (w : Width) (v : Dword) (s : State) : (storeBytes a w v s).pi = s.pi := by simp only [storeBytes, runSerial, apply_ite State.pi, ite_self]
@[simp] theorem storeBytes_sp (a : Nat) (w : Width) (v : Dword) (s : State) : (storeBytes a w v s).sp = s.sp := by simp only [storeBytes, runSerial, apply_ite State.sp, ite_self]
@[simp] theorem storeBytes_dev (a : Nat) (w : Width) (v : Dword) (s : State) : (storeBytes a w v s).dev = s.dev := by simp only [storeBytes, runSerial, apply_ite State.dev, ite_self]
@[simp] theorem storeBytes_now (a : Nat) (w : Width) (v : Dword) (s : State) : (storeBytes a w v s).now = s.now := by simp only [storeBytes, runSerial, apply_ite State.now, ite_self]
@[simp] theorem storeBytes_queue (a : Nat) (w : Width) (v : Dword) (s : State) : (storeBytes a w v s).queue = s.queue := by simp only [storeBytes, runSerial, apply_ite State.queue, ite_self]
@[simp] theorem storeBytes_nextSeq (a : Nat) (w : Width) (v : Dword) (s : State) : (storeBytes a w v s).nextSeq = s.nextSeq := by simp only [storeBytes, runSerial, apply_ite State.nextSeq, ite_self]
@[simp] theorem storeBytes_inputs (a : Nat) (w : Width) (v : Dword) (s : State) : (storeBytes a w v s).inputs = s.inputs := by simp only [storeBytes, runSerial, apply_ite State.inputs, ite_self]
@[simp] theorem storeBytes_frames (a : Nat) (w : Width) (v : Dword) (s : State) : (storeBytes a w v s).frames = s.frames := by simp only [storeBytes, runSerial, apply_ite State.frames, ite_self]

/-! ## branch -/

@[simp] theorem branch_gprs (c : Bool) (t : Dword) (s : State) : (branch c t s).gprs = s.gprs := by unfold branch; split <;> rfl
@[simp] theorem branch_hi (c : Bool) (t : Dword) (s : State) : (branch c t s).hi = s.hi := by unfold branch; split <;> rfl
@[simp] theorem branch_lo (c : Bool) (t : Dword) (s : State) : (branch c t s).lo = s.lo := by unfold branch; split <;> rfl
@[simp] theorem branch_prevPc (c : Bool) (t : Dword) (s : State) : (branch c t s).prevPc = s.prevPc := by unfold branch; split <;> rfl
@[simp] theorem branch_pc (c : Bool) (t : Dword) (s : State) : (branch c t s).pc = s.pc := by unfold branch; split <;> rfl
@[simp] theorem branch_prevDelaySlot (c : Bool) (t : Dword) (s : State) : (branch c t s).prevDelaySlot = s.prevDelaySlot := by unfold branch; split <;> rfl
@[simp] theorem branch_llbit (c : Bool) (t : Dword) (s : State) : (branch c t s).llbit = s.llbit := by unfold branch; split <;> rfl
@[simp] theorem branch_fatal (c : Bool) (t : Dword) (s : State) : (branch c t s).fatal = s.fatal := by unfold branch; split <;> rfl
@[simp] theorem branch_cop0 (c : Bool) (t : Dword) (s : State) : (branch c t s).cop0 = s.cop0 := by unfold branch; split <;> rfl
@[simp] theorem branch_tlb (c : Bool) (t : Dword) (s : State) : (branch c t s).tlb = s.tlb := by unfold branch; split <;> rfl
@[simp] theorem branch_fcr31 (c : Bool) (t : Dword) (s : State) : (branch c t s).fcr31 = s.fcr31 := by unfold branch; split <;> rfl
@[simp] theorem branch_fgrs (c : Bool) (t : Dword) (s : State) : (branch c t s).fgrs = s.fgrs := by unfold branch; split <;> rfl
@[simp] theorem branch_mem (c : Bool) (t : Dword) (s : State) : (branch c t s).mem = s.mem := by unfold branch; split <;> rfl
@[simp] theorem branch_mi (c : Bool) (t : Dword) (s : State) : (branch c t s).mi = s.mi := by unfold branch; split <;> rfl
@[simp] theorem branch_vi (c : Bool) (t : Dword) (s : State) : (branch c t s).vi = s.vi := by unfold branch; split <;> rfl
@[simp] theorem branch_pi (c : Bool) (t : Dword) (s : State) : (branch c t s).pi = s.pi := by unfold branch; split <;> rfl
@[simp] theorem branch_sp (c : Bool) (t : Dword) (s : State) : (branch c t s).sp = s.sp := by unfold branch; split <;> rfl
@[simp] theorem branch_dev (c : Bool) (t : Dword) (s : State) : (branch c t s).dev = s.dev := by unfold branch; split <;> rfl
@[simp] theorem branch_now (c : Bool) (t : Dword) (s : State) : (branch c t s).now = s.now := by unfold branch; split <;> rfl
@[simp] theorem branch_queue (c : Bool) (t : Dword) (s : State) : (branch c t s).queue = s.queue := by unfold branch; split <;> rfl
@[simp] theorem branch_nextSeq (c : Bool) (t : Dword) (s : State) : (branch c t s).nextSeq = s.nextSeq := by unfold branch; split <;> rfl
@[simp] theorem branch_draws (c : Bool) (t : Dword) (s : State) : (branch c t s).draws = s.draws := by unfold branch; split <;> rfl
@[simp] theorem branch_inputs (c : Bool) (t : Dword) (s : State) : (branch c t s).inputs = s.inputs := by unfold branch; split <;> rfl
@[simp] theorem branch_frames (c : Bool) (t : Dword) (s : State) : (branch c t s).frames = s.frames := by unfold branch; split <;> rfl

/-! ## branchLikely -/

@[simp] theorem branchLikely_gprs (c : Bool) (t : Dword) (s : State) : (branchLikely c t s).gprs = s.gprs := by unfold branchLikely; split <;> rfl
@[simp] theorem branchLikely_hi (c : Bool) (t : Dword) (s : State) : (branchLikely c t s).hi = s.hi := by unfold branchLikely; split <;> rfl
@[simp] theorem branchLikely_lo (c : Bool) (t : Dword) (s : State) : (branchLikely c t s).lo = s.lo := by unfold branchLikely; split <;> rfl
@[simp] theorem branchLikely_prevPc (c : Bool) (t : Dword) (s : State) : (branchLikely c t s).prevPc = s.prevPc := by unfold branchLikely; split <;> rfl
@[simp] theorem branchLikely_prevDelaySlot (c : Bool) (t : Dword) (s : State) : (branchLikely c t s).prevDelaySlot = s.prevDelaySlot := by unfold branchLikely; split <;> rfl
@[simp] theorem branchLikely_llbit (c : Bool) (t : Dword) (s : State) : (branchLikely c t s).llbit = s.llbit := by unfold branchLikely; split <;> rfl
@[simp] theorem branchLikely_fatal (c : Bool) (t : Dword) (s : State) : (branchLikely c t s).fatal = s.fatal := by unfold branchLikely; split <;> rfl
@[simp] theorem branchLikely_cop0 (c : Bool) (t : Dword) (s : State) : (branchLikely c t s).cop0 = s.cop0 := by unfold branchLikely; split <;> rfl
@[simp] theorem branchLikely_tlb (c : Bool) (t : Dword) (s : State) : (branchLikely c t s).tlb = s.tlb := by unfold branchLikely; split <;> rfl
@[simp] theorem branchLikely_fcr31 (c : Bool) (t : Dword) (s : State) : (branchLikely c t s).fcr31 = s.fcr31 := by unfold branchLikely; split <;> rfl
@[simp] theorem branchLikely_fgrs (c : Bool) (t : Dword) (s : State) : (branchLikely c t s).fgrs = s.fgrs := by unfold branchLikely; split <;> rfl
@[simp] theorem branchLikely_mem (c : Bool) (t : Dword) (s : State) : (branchLikely c t s).mem = s.mem := by unfold branchLikely; split <;> rfl
@[simp] theorem branchLikely_mi (c : Bool) (t : Dword) (s : State) : (branchLikely c t s).mi = s.mi := by unfold branchLikely; split <;> rfl
@[simp] theorem branchLikely_vi (c : Bool) (t : Dword) (s : State) : (branchLikely c t s).vi = s.vi := by unfold branchLikely; split <;> rfl
@[simp] theorem branchLikely_pi (c : Bool) (t : Dword) (s : State) : (branchLikely c t s).pi = s.pi := by unfold branchLikely; split <;> rfl
@[simp] theorem branchLikely_sp (c : Bool) (t : Dword) (s : State) : (branchLikely c t s).sp = s.sp := by unfold branchLikely; split <;> rfl
@[simp] theorem branchLikely_dev (c : Bool) (t : Dword) (s : State) : (branchLikely c t s).dev = s.dev := by unfold branchLikely; split <;> rfl
@[simp] theorem branchLikely_now (c : Bool) (t : Dword) (s : State) : (branchLikely c t s).now = s.now := by unfold branchLikely; split <;> rfl
@[simp] theorem branchLikely_queue (c : Bool) (t : Dword) (s : State) : (branchLikely c t s).queue = s.queue := by unfold branchLikely; split <;> rfl
@[simp] theorem branchLikely_nextSeq (c : Bool) (t : Dword) (s : State) : (branchLikely c t s).nextSeq = s.nextSeq := by unfold branchLikely; split <;> rfl
@[simp] theorem branchLikely_draws (c : Bool) (t : Dword) (s : State) : (branchLikely c t s).draws = s.draws := by unfold branchLikely; split <;> rfl
@[simp] theorem branchLikely_inputs (c : Bool) (t : Dword) (s : State) : (branchLikely c t s).inputs = s.inputs := by unfold branchLikely; split <;> rfl
@[simp] theorem branchLikely_frames (c : Bool) (t : Dword) (s : State) : (branchLikely c t s).frames = s.frames := by unfold branchLikely; split <;> rfl

/-! ## enterException -/

@[simp] theorem enterException_gprs (k : Exc) (p : Bool) (s : State) : (enterException k p s).gprs = s.gprs := rfl
@[simp] theorem enterException_hi (k : Exc) (p : Bool) (s : State) : (enterException k p s).hi = s.hi := rfl
@[simp] theorem enterException_lo (k : Exc) (p : Bool) (s : State) : (enterException k p s).lo = s.lo := rfl
@[simp] theorem enterException_prevPc (k : Exc) (p : Bool) (s : State) : (enterException k p s).prevPc = s.prevPc := rfl
@[simp] theorem enterException_llbit (k : Exc) (p : Bool) (s : State) : (enterException k p s).llbit = s.llbit := rfl
@[simp] theorem enterException_fatal (k : Exc) (p : Bool) (s : State) : (enterException k p s).fatal = s.fatal := rfl
@[simp] theorem enterException_tlb (k : Exc) (p : Bool) (s : State) : (enterException k p s).tlb = s.tlb := rfl
@[simp] theorem enterException_fcr31 (k : Exc) (p : Bool) (s : State) : (enterException k p s).fcr31 = s.fcr31 := rfl
@[simp] theorem enterException_fgrs (k : Exc) (p : Bool) (s : State) : (enterException k p s).fgrs = s.fgrs := rfl
@[simp] theorem enterException_mem (k : Exc) (p : Bool) (s : State) : (enterException k p s).mem = s.mem := rfl
@[simp] theorem enterException_mi (k : Exc) (p : Bool) (s : State) : (enterException k p s).mi = s.mi := rfl
@[simp] theorem enterException_vi (k : Exc) (p : Bool) (s : State) : (enterException k p s).vi = s.vi := rfl
@[simp] theorem enterException_pi (k : Exc) (p : Bool) (s : State) : (enterException k p s).pi = s.pi := rfl
@[simp] theorem enterException_sp (k : Exc) (p : Bool) (s : State) : (enterException k p s).sp = s.sp := rfl
@[simp] theorem enterException_dev (k : Exc) (p : Bool) (s : State) : (enterException k p s).dev = s.dev := rfl
@[simp] theorem enterException_now (k : Exc) (p : Bool) (s : State) : (enterException k p s).now = s.now := rfl
@[simp] theorem enterException_queue (k : Exc) (p : Bool) (s : State) : (enterException k p s).queue = s.queue := rfl
@[simp] theorem enterException_nextSeq (k : Exc) (p : Bool) (s : State) : (enterException k p s).nextSeq = s.nextSeq := rfl
@[simp] theorem enterException_draws (k : Exc) (p : Bool) (s : State) : (enterException k p s).draws = s.draws := rfl
@[simp] theorem enterException_inputs (k : Exc) (p : Bool) (s : State) : (enterException k p s).inputs = s.inputs := rfl
@[simp] theorem enterException_frames (k : Exc) (p : Bool) (s : State) : (enterException k p s).frames = s.frames := rfl
@[simp] theorem enterException_pc (k : Exc) (p : Bool) (s : State) : (enterException k p s).pc = vector k s.exl s.ext := rfl
@[simp] theorem enterException_nextPc (k : Exc) (p : Bool) (s : State) : (enterException k p s).nextPc = vector k s.exl s.ext + 4#64 := rfl
@[simp] theorem enterException_delaySlot (k : Exc) (p : Bool) (s : State) : (enterException k p s).delaySlot = false := rfl
@[simp] theorem enterException_prevDelaySlot (k : Exc) (p : Bool) (s : State) : (enterException k p s).prevDelaySlot = false := rfl

/-! ## returnFromException -/

@[simp] theorem returnFromException_gprs (s : State) : (returnFromException s).gprs = s.gprs := by unfold returnFromException; split <;> rfl
@[simp] theorem returnFromException_hi (s : State) : (returnFromException s).hi = s.hi := by unfold returnFromException; split <;> rfl
@[simp] theorem returnFromException_lo (s : State) : (returnFromException s).lo = s.lo := by unfold returnFromException; split <;> rfl
@[simp] theorem returnFromException_prevPc (s : State) : (returnFromException s).prevPc = s.prevPc := by unfold returnFromException; split <;> rfl
@[simp] theorem returnFromException_delaySlot (s : State) : (returnFromException s).delaySlot = s.delaySlot := by unfold returnFromException; split <;> rfl
@[simp] theorem returnFromException_prevDelaySlot (s : State) : (returnFromException s).prevDelaySlot = s.prevDelaySlot := by unfold returnFromException; split <;> rfl
@[simp] theorem returnFromException_fatal (s : State) : (returnFromException s).fatal = s.fatal := by unfold returnFromException; split <;> rfl
@[simp] theorem returnFromException_tlb (s : State) : (returnFromException s).tlb = s.tlb := by unfold returnFromException; split <;> rfl
@[simp] theorem returnFromException_fcr31 (s : State) : (returnFromException s).fcr31 = s.fcr31 := by unfold returnFromException; split <;> rfl
@[simp] theorem returnFromException_fgrs (s : State) : (returnFromException s).fgrs = s.fgrs := by unfold returnFromException; split <;> rfl
@[simp] theorem returnFromException_mem (s : State) : (returnFromException s).mem = s.mem := by unfold returnFromException; split <;> rfl
@[simp] theorem returnFromException_mi (s : State) : (returnFromException s).mi = s.mi := by unfold returnFromException; split <;> rfl
@[simp] theorem returnFromException_vi (s : State) : (returnFromException s).vi = s.vi := by unfold returnFromException; split <;> rfl
@[simp] theorem returnFromException_pi (s : State) : (returnFromException s).pi = s.pi := by unfold returnFromException; split <;> rfl
@[simp] theorem returnFromException_sp (s : State) : (returnFromException s).sp = s.sp := by unfold returnFromException; split <;> rfl
@[simp] theorem returnFromException_dev (s : State) : (returnFromException s).dev = s.dev := by unfold returnFromException; split <;> rfl
@[simp] theorem returnFromException_now (s : State) : (returnFromException s).now = s.now := by unfold returnFromException; split <;> rfl
@[simp] theorem returnFromException_queue (s : State) : (returnFromException s).queue = s.queue := by unfold returnFromException; split <;> rfl
@[simp] theorem returnFromException_nextSeq (s : State) : (returnFromException s).nextSeq = s.nextSeq := by unfold returnFromException; split <;> rfl
@[simp] theorem returnFromException_draws (s : State) : (returnFromException s).draws = s.draws := by unfold returnFromException; split <;> rfl
@[simp] theorem returnFromException_inputs (s : State) : (returnFromException s).inputs = s.inputs := by unfold returnFromException; split <;> rfl
@[simp] theorem returnFromException_frames (s : State) : (returnFromException s).frames = s.frames := by unfold returnFromException; split <;> rfl
@[simp] theorem returnFromException_llbit (s : State) : (returnFromException s).llbit = false := by unfold returnFromException; split <;> rfl

/-! ## Registers -/

@[simp] theorem gpr_zero (s : State) : s.gpr 0#5 = 0#64 := by simp [State.gpr]

/-- What a register reads as after a write (R21). -/
theorem gpr_setGpr (s : State) (r q : Reg) (v : Dword) :
    (s.setGpr r v).gpr q = if q = 0#5 then 0#64 else if q = r then v else s.gpr q := by
  unfold State.gpr State.setGpr
  by_cases hq : q = 0#5
  · simp [hq]
  · by_cases hr : r = 0#5
    · subst hr; simp [hq]
    · by_cases h : q = r
      · subst h; simp [hq]
      · have : r.toNat ≠ q.toNat := fun e => h (BitVec.eq_of_toNat_eq e.symm)
        simp [hq, hr, h, this]

/-- Registers read the same in two states with the same register file. -/
theorem gpr_congr {s t : State} (h : t.gprs = s.gprs) (q : Reg) : t.gpr q = s.gpr q := by simp [State.gpr, h]

/-- A write never changes the stored register 0 (R21). -/
@[simp] theorem setGpr_gprs_zero (s : State) (r : Reg) (v : Dword) : (s.setGpr r v).gprs[0] = s.gprs[0] := by
  unfold State.setGpr
  split
  · rfl
  · have : r.toNat ≠ 0 := fun e => ‹r ≠ 0#5› (BitVec.eq_of_toNat_eq (by simpa using e))
    simp [this]

/-- What an FP register reads as after a write. -/
theorem fgr_setFgr (s : State) (r q : Reg) (v : Dword) : (s.setFgr r v).fgr q = if q = r then v else s.fgr q := by
  unfold State.fgr State.setFgr
  by_cases h : q = r
  · subst h; simp
  · have : r.toNat ≠ q.toNat := fun e => h (BitVec.eq_of_toNat_eq e.symm)
    simp [h, this]

end Sys2Proof.Machine
end

