-- ==== Sys2Proof/Laws/Ops.lean ====
section
/-! SUPPORT. One lemma for each shared operation, saying everything it can do, in the words of Safety.lean where it has them. -/

namespace Sys2Proof.Machine

/-! ## Sequencing -/

@[simp] theorem bind_ok {α β : Type} (a : α) (s : State) (f : α → State → Res β) : (Res.ok a s).bind f = f a s := rfl
@[simp] theorem bind_raised {α β : Type} (s : State) (f : α → State → Res β) : (Res.raised s : Res α).bind f = .raised s := rfl
@[simp] theorem bind_fatal {α β : Type} (r : FatalReason) (s : State) (f : α → State → Res β) :
    (Res.fatal r s : Res α).bind f = .fatal r s := rfl
@[simp] theorem outcome_ok {α : Type} (a : α) (s : State) : (Res.ok a s).outcome = .next s := rfl
@[simp] theorem outcome_raised {α : Type} (s : State) : (Res.raised s : Res α).outcome = .next s := rfl
@[simp] theorem outcome_fatal {α : Type} (r : FatalReason) (s : State) : (Res.fatal r s : Res α).outcome = stops r s := rfl
@[simp] theorem outcome_done (s : State) : (done s).outcome = .next s := rfl

theorem bind_eq_ok {α β : Type} {m : Res α} {f : α → State → Res β} {b : β} {t : State} :
    m.bind f = .ok b t ↔ ∃ a u, m = .ok a u ∧ f a u = .ok b t := by
  cases m <;> simp [Res.bind]

theorem bind_eq_raised {α β : Type} {m : Res α} {f : α → State → Res β} {t : State} :
    m.bind f = .raised t ↔ m = .raised t ∨ ∃ a u, m = .ok a u ∧ f a u = .raised t := by
  cases m <;> simp [Res.bind]

/-- A next state is reached with the effects made, or by taking an exception. -/
theorem outcome_eq_next {α : Type} {m : Res α} {t : State} :
    m.outcome = .next t ↔ (∃ a, m = .ok a t) ∨ m = .raised t := by
  cases m <;> simp [Res.outcome, stopFatal]

theorem done_eq_ok {s t : State} {a : Unit} : done s = .ok a t ↔ t = s := by
  cases a; simp [done, eq_comm]

@[simp] theorem done_ne_raised {s t : State} : done s ≠ .raised t := by simp [done]

/-! ## Modes and gates -/

theorem gated_iff (s : State) : s.gated64 = false ↔ s.enabled64 := by
  unfold State.gated64 State.enabled64 State.sx State.ux
  cases s.mode <;> simp

theorem usable0_iff (s : State) : s.cop0Usable = true ↔ s.usable0 := by
  unfold State.cop0Usable State.usable0 State.cu0; simp

theorem needs64_open {α : Type} {s : State} (h : s.enabled64) (k : Res α) : needs64 s k = k := by
  simp [needs64, (gated_iff s).2 h]

theorem needs64_closed {α : Type} {s : State} (h : ¬ s.enabled64) (k : Res α) : needs64 s k = .fatal .mode64Gate s := by
  simp [needs64, ← gated_iff] at *; simp [h]

theorem needsCop0_open {α : Type} {s : State} (h : s.usable0) (k : Res α) : needsCop0 s k = k := by
  simp [needsCop0, (usable0_iff s).2 h]

theorem needsCop0_closed {α : Type} {s : State} (h : ¬ s.usable0) (k : Res α) :
    needsCop0 s k = raise (.copUnusable 0#2) true s := by
  simp [needsCop0, ← usable0_iff] at *; simp [h]

theorem needsCop1_open {α : Type} {s : State} (h : s.usable1) (k : Res α) : needsCop1 s k = k := if_pos h

theorem needsCop1_closed {α : Type} {s : State} (h : ¬ s.usable1) (k : Res α) :
    needsCop1 s k = raise (.copUnusable 1#2) true s := if_neg h

theorem needsNoSlot_open {α : Type} {s : State} (h : s.prevDelaySlot = false) (k : Res α) : needsNoSlot s k = k := by
  simp [needsNoSlot, h]

theorem needsNoSlot_closed {α : Type} {s : State} (h : s.prevDelaySlot = true) (k : Res α) :
    needsNoSlot s k = .fatal .branchInDelaySlot s := by simp [needsNoSlot, h]

theorem raise_outcome {α : Type} (k : Exc) (p : Bool) (s : State) :
    (raise k p s : Res α).outcome = if s.cop0.status.getLsbD 22 then stops .bev s else .next (enterException k p s) := by
  unfold raise
  change Res.outcome (if s.cop0.status.getLsbD 22 = true then _ else _) = _
  cases s.cop0.status.getLsbD 22 <;> rfl

theorem raise_eq_raised {α : Type} {k : Exc} {p : Bool} {s t : State} :
    (raise k p s : Res α) = .raised t ↔ s.bev = false ∧ t = enterException k p s := by
  unfold raise; cases s.bev <;> simp [eq_comm]

@[simp] theorem raise_ne_ok {α : Type} {k : Exc} {p : Bool} {s t : State} {a : α} : raise k p s ≠ .ok a t := by
  unfold raise; split <;> simp

/-- What a gated computation that goes on did. -/
theorem needs64_eq_ok {α : Type} {s t : State} {k : Res α} {a : α} : needs64 s k = .ok a t ↔ s.enabled64 ∧ k = .ok a t := by
  simp only [needs64, ← gated_iff]; cases s.gated64 <;> simp

theorem needs64_eq_raised {α : Type} {s t : State} {k : Res α} : needs64 s k = .raised t ↔ s.enabled64 ∧ k = .raised t := by
  simp only [needs64, ← gated_iff]; cases s.gated64 <;> simp

theorem needsCop0_eq_ok {α : Type} {s t : State} {k : Res α} {a : α} : needsCop0 s k = .ok a t ↔ s.usable0 ∧ k = .ok a t := by
  simp only [needsCop0, ← usable0_iff]; cases s.cop0Usable <;> simp

theorem needsCop0_eq_raised {α : Type} {s t : State} {k : Res α} : needsCop0 s k = .raised t ↔
    (s.usable0 ∧ k = .raised t) ∨ (¬ s.usable0 ∧ s.bev = false ∧ t = enterException (.copUnusable 0#2) true s) := by
  simp only [needsCop0, ← usable0_iff]; cases s.cop0Usable <;> simp [raise_eq_raised]

theorem needsCop1_eq_ok {α : Type} {s t : State} {k : Res α} {a : α} : needsCop1 s k = .ok a t ↔ s.usable1 ∧ k = .ok a t := by
  by_cases h : s.usable1 <;> simp [needsCop1_open, needsCop1_closed, h]

theorem needsCop1_eq_raised {α : Type} {s t : State} {k : Res α} : needsCop1 s k = .raised t ↔
    (s.usable1 ∧ k = .raised t) ∨ (¬ s.usable1 ∧ s.bev = false ∧ t = enterException (.copUnusable 1#2) true s) := by
  by_cases h : s.usable1 <;> simp [needsCop1_open, needsCop1_closed, h, raise_eq_raised]

theorem needsNoSlot_eq_ok {α : Type} {s t : State} {k : Res α} {a : α} :
    needsNoSlot s k = .ok a t ↔ s.prevDelaySlot = false ∧ k = .ok a t := by
  simp only [needsNoSlot]; cases s.prevDelaySlot <;> simp

theorem needsNoSlot_eq_raised {α : Type} {s t : State} {k : Res α} :
    needsNoSlot s k = .raised t ↔ s.prevDelaySlot = false ∧ k = .raised t := by
  simp only [needsNoSlot]; cases s.prevDelaySlot <;> simp

/-! ## Taking an exception (R413 to R417) -/

/-- COP0 after a nested entry: EPC, BD and EXL are kept (R417). -/
theorem enterException_cop0_nested {s : State} (h : s.exl = true) (k : Exc) (p : Bool) :
    (enterException k p s).cop0 =
      recordAddress k { s.cop0 with cause := causeWithCode k.code k.ceField s.cop0.cause } := by
  unfold enterException; rw [h]; rfl

/-- COP0 after an entry from EXL = 0: EPC and BD are written and EXL is set (R413, R414). -/
theorem enterException_cop0_fresh {s : State} (h : s.exl = false) (k : Exc) (p : Bool) :
    (enterException k p s).cop0 =
      recordAddress k { s.cop0 with
        epc := if s.prevDelaySlot then (if p then s.prevPc else s.pc) - 4#64 else if p then s.prevPc else s.pc
        cause := causeWithCode k.code k.ceField (writeBit s.cop0.cause 31 s.prevDelaySlot)
        status := s.cop0.status ||| 2#32 } := by
  unfold enterException; rw [h]; rfl

/-- What recording the address keeps (R416). -/
theorem recordAddress_frame (k : Exc) (c : Cop0) :
    recordAddress k c = { c with
      badVAddr := (recordAddress k c).badVAddr, context := (recordAddress k c).context
      xContext := (recordAddress k c).xContext, entryHi := (recordAddress k c).entryHi } := by
  cases k <;> rfl

/-- The status after an entry: EXL set, nothing else changed. -/
theorem enterException_status (k : Exc) (p : Bool) (s : State) :
    (enterException k p s).cop0.status = s.cop0.status ||| 2#32 := by
  cases h : s.exl
  · rw [enterException_cop0_fresh h, recordAddress_frame]
  · rw [enterException_cop0_nested h, recordAddress_frame]
    apply BitVec.eq_of_getLsbD_eq
    intro i hi
    rw [BitVec.getLsbD_or, show (2#32 : Word).getLsbD i = decide (i = 1) by revert i; decide]
    by_cases h1 : i = 1
    · subst h1; rw [show s.cop0.status.getLsbD 1 = true from h]; rfl
    · simp [h1]

/-! ## Results of exact arithmetic -/

theorem wordResult_toInt (x : Word) : wordResult x.toInt = sext32 x := by
  unfold wordResult sext32
  rw [BitVec.toInt_bmod_cancel, BitVec.signExtend]

/-- A word whose signed value is `n` modulo 2^32 is the word result of `n`. -/
theorem wordResult_eq {x : Word} {n : Int} (h : x.toInt = n.bmod (2 ^ 32)) : wordResult n = sext32 x := by
  unfold wordResult sext32
  rw [← h, BitVec.signExtend]

theorem dwordResult_eq {x : Dword} {n : Int} (h : x.toInt = n.bmod (2 ^ 64)) : dwordResult n = x := by
  unfold dwordResult
  apply BitVec.eq_of_toInt_eq
  rw [h, BitVec.toInt_ofInt]

theorem lo32_toInt (v : Dword) : (lo32 v).toInt = signedWord v := rfl

theorem lo32_toNat (v : Dword) : (lo32 v).toNat = unsignedWord v := by simp [lo32, unsignedWord]

theorem putGated_open {s : State} (h : s.enabled64) (r : Reg) (v : Dword) : putGated r v s = .next (s.setGpr r v) := by
  simp [putGated, needs64_open h]

theorem putGated_eq_next {s t : State} {r : Reg} {v : Dword} :
    putGated r v s = .next t ↔ s.enabled64 ∧ t = s.setGpr r v := by
  by_cases h : s.enabled64
  · simp [putGated_open h, h, eq_comm]
  · simp [putGated, needs64_closed h, h, stops]

/-! ## Addresses -/

theorem simm_toInt (i : Imm) : (simm i).toInt = i.toInt := by
  simp [simm, BitVec.toInt_signExtend_of_le]

theorem effAddr_eq (s : State) (base : Reg) (offset : Imm) : effAddr s base offset = s.address base offset := by
  apply BitVec.eq_of_toInt_eq
  simp [effAddr, State.address, BitVec.toInt_add, simm_toInt, BitVec.toInt_ofInt]

theorem branchTarget_eq (s : State) (offset : Imm) : branchTarget s offset = branchTo s offset := by
  apply BitVec.eq_of_toInt_eq
  simp [branchTarget, branchTo, BitVec.toInt_add, BitVec.toInt_mul, simm_toInt, BitVec.toInt_ofInt]

/-! ## FP registers -/

theorem fpWhole_iff (s : State) (r : Reg) : fpWhole s r = true ↔ s.fpDouble r := by
  have h : r.getLsbD 0 = decide (r.toNat % 2 = 1) := by
    rw [BitVec.getLsbD, Nat.testBit_zero]
  unfold fpWhole State.fpDouble State.fr
  rw [h]
  rcases Nat.mod_two_eq_zero_or_one r.toNat with h | h <;> simp [h]

theorem fpRead64_whole {s : State} {r : Reg} (h : s.fpDouble r) : fpRead64 r s = .ok (s.fgr r) s := by
  simp [fpRead64, (fpWhole_iff s r).2 h]

theorem fpRead64_odd {s : State} {r : Reg} (h : ¬ s.fpDouble r) : fpRead64 r s = .fatal .fr0OddDouble s := by
  have := mt (fpWhole_iff s r).1 h
  simp [fpRead64, this]

theorem fpWrite64_whole {s : State} {r : Reg} (h : s.fpDouble r) (v : Dword) : fpWrite64 r v s = .ok () (s.setFgr r v) := by
  simp [fpWrite64, (fpWhole_iff s r).2 h, done]

theorem fpWrite64_odd {s : State} {r : Reg} (h : ¬ s.fpDouble r) (v : Dword) :
    fpWrite64 r v s = .fatal .fr0OddDouble s := by
  have := mt (fpWhole_iff s r).1 h
  simp [fpWrite64, this]

/-! ## Translation and data accesses -/

theorem dataAddr_pa {s : State} {va : Dword} {acc : Access} {w : Width} {pa : Word} (he : s.endianOk)
    (h : translate s va acc w = .pa pa) : dataAddr va acc w s = .ok pa s := by
  unfold dataAddr
  rw [h]
  exact if_neg he

theorem dataAddr_fault {s : State} {va : Dword} {acc : Access} {w : Width} {k : Exc} (he : s.endianOk)
    (h : translate s va acc w = .fault k) : dataAddr va acc w s = raise k true s := by
  unfold dataAddr
  rw [h]
  exact if_neg he

theorem dataAddr_fatal {s : State} {va : Dword} {acc : Access} {w : Width} {r : FatalReason} (he : s.endianOk)
    (h : translate s va acc w = .fatal r) : dataAddr va acc w s = .fatal r s := by
  unfold dataAddr
  rw [h]
  exact if_neg he

theorem dataAddr_endian {s : State} {va : Dword} {acc : Access} {w : Width} (he : ¬ s.endianOk) :
    dataAddr va acc w s = .fatal .reverseEndian s := by
  unfold dataAddr
  exact if_pos (not_not.1 he)

/-- A data access that goes on has translated its address, and changed nothing. -/
theorem dataAddr_eq_ok {s t : State} {va : Dword} {acc : Access} {w : Width} {pa : Word} :
    dataAddr va acc w s = .ok pa t ↔ s.endianOk ∧ translate s va acc w = .pa pa ∧ t = s := by
  by_cases he : s.endianOk
  · cases h : translate s va acc w with
    | pa a => simp [dataAddr_pa he h, he, eq_comm]
    | fault k => simp [dataAddr_fault he h]
    | fatal r => simp [dataAddr_fatal he h]
  · simp [dataAddr_endian he, he]

/-- A data access that raises has a fault of its translation. -/
theorem dataAddr_eq_raised {s t : State} {va : Dword} {acc : Access} {w : Width} :
    dataAddr va acc w s = .raised t ↔
      s.endianOk ∧ ∃ k, translate s va acc w = .fault k ∧ s.bev = false ∧ t = enterException k true s := by
  by_cases he : s.endianOk
  · cases h : translate s va acc w with
    | pa a => simp [dataAddr_pa he h]
    | fault k => simp [dataAddr_fault he h, he, raise_eq_raised]
    | fatal r => simp [dataAddr_fatal he h]
  · simp [dataAddr_endian he, he]

theorem lo32_mod (va : Dword) {n : Nat} (h : n ∣ 2 ^ 32) : (lo32 va).toNat % n = va.toNat % n := by
  rw [lo32, BitVec.toNat_setWidth, Nat.mod_mod_of_dvd _ h]

/-- The page-offset mask keeps the low 12 bits. -/
theorem offsetMask_low (m : Word) (k : Nat) (hk : k < 12) : ((m ||| 0x1FFF#32) >>> 1).getLsbD k = true := by
  have : k = 0 ∨ k = 1 ∨ k = 2 ∨ k = 3 ∨ k = 4 ∨ k = 5 ∨ k = 6 ∨ k = 7 ∨ k = 8 ∨ k = 9 ∨ k = 10 ∨ k = 11 := by omega
  rcases this with h | h | h | h | h | h | h | h | h | h | h | h <;> subst h <;> simp

theorem physical_low (e : TlbEntry) (a : Word) : (e.physical a).setWidth 12 = a.setWidth 12 := by
  apply BitVec.eq_of_getLsbD_eq
  intro k hk
  have h := offsetMask_low e.mask k hk
  simp only [TlbEntry.physical, TlbEntry.offsetMask, BitVec.getLsbD_setWidth, BitVec.getLsbD_or, BitVec.getLsbD_and,
    BitVec.getLsbD_not]
  simp [h, hk]

theorem tlbUse_pa {e : TlbEntry} {va : Dword} {acc : Access} {pa : Word} (h : tlbUse e va acc = .pa pa) :
    pa = e.physical (lo32 va) := by
  unfold tlbUse at h
  grind

theorem tlbTranslate_pa {s : State} {va : Dword} {acc : Access} {pa : Word} (h : tlbTranslate s va acc = .pa pa) :
    ∃ e : TlbEntry, pa = e.physical (lo32 va) := by
  unfold tlbTranslate at h
  split at h
  · simp at h
  · exact ⟨_, tlbUse_pa h⟩
  · simp at h

theorem toNat_mod_of_setWidth {a b : Word} (h : a.setWidth 12 = b.setWidth 12) : a.toNat % 4096 = b.toNat % 4096 := by
  have := congrArg BitVec.toNat h
  simpa using this

/-- A translation keeps the offset in a 4 KiB page. -/
theorem translate_offset {s : State} {va : Dword} {acc : Access} {w : Width} {pa : Word}
    (h : translate s va acc w = .pa pa) : pa.toNat % 4096 = va.toNat % 4096 := by
  have key : ∀ {pa}, tlbTranslate s va acc = .pa pa → pa.toNat % 4096 = va.toNat % 4096 := by
    intro pa h
    obtain ⟨e, rfl⟩ := tlbTranslate_pa h
    rw [toNat_mod_of_setWidth (physical_low e (lo32 va)), lo32_mod va (by decide)]
  have sub : ∀ c : Word, c.toNat % 4096 = 0 → (lo32 va - c).toNat % 4096 = va.toNat % 4096 := by
    intro c hc
    rw [← lo32_mod va (n := 4096) (by decide)]
    generalize lo32 va = a
    rw [BitVec.toNat_sub]
    omega
  simp only [translate] at h
  repeat' split at h
  all_goals first
    | exact key h
    | (injection h with h; subst h; first | exact sub _ (by decide) | exact lo32_mod va (by decide))
    | exact absurd h (by simp)

/-- A translation that succeeds was of an aligned address. -/
theorem translate_aligned {s : State} {va : Dword} {acc : Access} {w : Width} {pa : Word}
    (h : translate s va acc w = .pa pa) : pa.toNat % w.bytes = 0 := by
  have h1 : va.toNat % w.bytes = 0 := by
    simp only [translate] at h
    by_contra hne
    simp [hne] at h
  have h2 := translate_offset h
  have : w.bytes ∣ 4096 := by cases w <;> decide
  rw [← Nat.mod_mod_of_dvd _ this] at h1 ⊢
  rw [h2]; exact h1

end Sys2Proof.Machine
end

