-- ==== Sys2Proof/Laws/Bus.lean ====
section
/-! SUPPORT. The physical bus by window: which addresses are memory, what a read or write of them does, and PIF RAM. -/

namespace Sys2Proof.Machine

/-! ## Windows -/

/-- The window that claims an address is one of the table, and holds it. -/
theorem windowOf_eq_some {r : RdramSize} {a : Nat} {w : Window} {b : Nat} (h : windowOf r a = some (w, b)) :
    ∃ last, (w, b, last) ∈ windowTable r ∧ b ≤ a ∧ a ≤ last := by
  unfold windowOf at h
  cases hf : (windowTable r).find? (fun w => decide (w.2.1 ≤ a) && decide (a ≤ w.2.2)) with
  | none => simp [hf] at h
  | some x =>
    simp only [hf, Option.map_some, Option.some.injEq, Prod.mk.injEq] at h
    have h1 := List.find?_some hf
    have h2 := List.mem_of_find?_eq_some hf
    simp only [Bool.and_eq_true, decide_eq_true_eq] at h1
    obtain ⟨rfl, rfl⟩ := h
    exact ⟨x.2.2, h2, h1⟩

/-- The addresses of the byte-array windows, as ranges (R118). -/
theorem inByteArray_iff (r : RdramSize) (a : Nat) :
    inByteArray r a = true ↔
      a < rdramBytes r ∨ (0x04000000 ≤ a ∧ a < 0x04002000) ∨ (0x1FC007C0 ≤ a ∧ a < 0x1FC00800) := by
  have hr : rdramBytes r = 0x400000 ∨ rdramBytes r = 0x800000 := by cases r <;> simp [rdramBytes]
  constructor
  · intro h
    unfold inByteArray at h
    cases hw : windowOf r a with
    | none => simp [hw] at h
    | some x =>
      obtain ⟨w, b⟩ := x
      obtain ⟨last, hm, h1, h2⟩ := windowOf_eq_some hw
      simp only [hw] at h
      simp only [windowTable, List.mem_cons, Prod.mk.injEq, List.not_mem_nil, or_false] at hm
      rcases hm with hm | hm | hm | hm | hm | hm | hm | hm | hm | hm | hm | hm | hm <;>
        obtain ⟨rfl, rfl, rfl⟩ := hm <;> simp [isByteWindow] at h <;> omega
  · intro h
    unfold inByteArray windowOf windowTable
    rcases h with h | h | h
    · rw [List.find?_cons_of_pos (by simp; omega)]; rfl
    · rw [List.find?_cons_of_neg (by simp; omega)]
      by_cases h1 : a < 0x04001000
      · rw [List.find?_cons_of_pos (by simp; omega)]; rfl
      · rw [List.find?_cons_of_neg (by simp; omega), List.find?_cons_of_pos (by simp; omega)]; rfl
    · iterate 12 rw [List.find?_cons_of_neg (by simp; omega)]
      rw [List.find?_cons_of_pos (by simp; omega)]; rfl

theorem inByteArray_window {r : RdramSize} {a : Nat} (h : inByteArray r a = true) :
    ∃ w b, windowOf r a = some (w, b) ∧ isByteWindow w = true := by
  unfold inByteArray at h
  cases hw : windowOf r a with
  | none => simp [hw] at h
  | some x => exact ⟨x.1, x.2, rfl, by simpa [hw] using h⟩

/-- An aligned access of at most 8 bytes stays in the memory it starts in. -/
theorem inByteArray_aligned {r : RdramSize} {a n x : Nat} (hn : n = 1 ∨ n = 2 ∨ n = 4 ∨ n = 8) (ha : a % n = 0)
    (h : inByteArray r a = true) (h1 : a ≤ x) (h2 : x < a + n) : inByteArray r x = true := by
  rw [inByteArray_iff] at *
  have hr : rdramBytes r = 0x400000 ∨ rdramBytes r = 0x800000 := by cases r <;> simp [rdramBytes]
  rcases hn with rfl | rfl | rfl | rfl <;> omega

/-- Addresses of one aligned container are memory together. -/
theorem inByteArray_container {r : RdramSize} {a b n : Nat} (hn : n = 1 ∨ n = 2 ∨ n = 4 ∨ n = 8) (hab : a / n = b / n)
    (h : inByteArray r a = true) : inByteArray r b = true := by
  rw [inByteArray_iff] at *
  have hr : rdramBytes r = 0x400000 ∨ rdramBytes r = 0x800000 := by cases r <;> simp [rdramBytes]
  rcases hn with rfl | rfl | rfl | rfl <;> omega

theorem Width.bytes_cases (w : Width) : w.bytes = 1 ∨ w.bytes = 2 ∨ w.bytes = 4 ∨ w.bytes = 8 := by cases w <;> simp [Width.bytes]

/-! ## Memory on the bus -/

theorem busRead_bytes {s : State} {pa : Word} (h : s.bytesAt pa.toNat) (w : Width) :
    busRead pa w s = .ok (s.mem.readBE pa.toNat w.bytes) s := by
  obtain ⟨win, b, h1, h2⟩ := inByteArray_window h
  simp [busRead, h1, h2]

theorem busWrite_bytes {s : State} {pa : Word} (h : s.bytesAt pa.toNat) (w : Width) (v : Dword) :
    busWrite pa w v s = .ok () (storeBytes pa.toNat w v s) := by
  obtain ⟨win, b, h1, h2⟩ := inByteArray_window h
  simp [busWrite, h1, h2, done]

/-- A store that does not cover the last byte of PIF RAM is plain. -/
theorem storeBytes_plain {a : Nat} {w : Width} (h : ¬(a ≤ pifTrigger ∧ pifTrigger < a + w.bytes)) (v : Dword) (s : State) :
    storeBytes a w v s = { s with mem := s.mem.writeBE a w.bytes v } := by
  unfold storeBytes; rw [if_neg h]

theorem storeBytes_trigger {a : Nat} {w : Width} (h : a ≤ pifTrigger ∧ pifTrigger < a + w.bytes) (v : Dword) (s : State) :
    storeBytes a w v s = runSerial { s with mem := s.mem.writeBE a w.bytes v } := by
  unfold storeBytes; rw [if_pos h]

theorem pifFill_wf (t : Nat) (old : List Byte) (n : Nat) {m : Memory} (h : m.wf = true) : (pifFill t old n m).wf = true := by
  induction n with
  | zero => rw [pifFill]; exact h
  | succ n ih => rw [pifFill]; exact Memory.wf_write ih _ _

/-- SERIAL_PROC replaces the bytes of PIF RAM and no others. -/
theorem pifFill_read (t : Nat) (old : List Byte) (n : Nat) {m : Memory} (h : m.wf = true) (x : Nat) :
    (pifFill t old n m).read x =
      if pifBase ≤ x ∧ x < pifBase + n then Config.serialProc t old (x - pifBase) else m.read x := by
  induction n with
  | zero => rw [pifFill, if_neg (by omega)]
  | succ n ih =>
    simp only [pifFill]
    rw [Memory.read_write (pifFill_wf t old n h), ih]
    by_cases hx : x = pifBase + n
    · rw [if_pos hx, if_pos ⟨by rw [hx]; exact Nat.le_add_right _ _, by rw [hx]; exact Nat.lt_succ_self _⟩, hx,
        Nat.add_sub_cancel_left]
    · rw [if_neg hx]
      generalize pifBase = b at *
      by_cases h1 : b ≤ x ∧ x < b + n
      · rw [if_pos h1, if_pos (by omega)]
      · rw [if_neg h1, if_neg (by omega)]

theorem mem_pifFill {t : Nat} {old : List Byte} {n : Nat} {m : Memory} {c : Host.Cell} (h : c ∈ pifFill t old n m) :
    c ∈ m ∨ (pifBase ≤ c.1 ∧ c.1 < pifBase + n) := by
  induction n with
  | zero => rw [pifFill] at h; exact .inl h
  | succ n ih =>
    rw [pifFill] at h
    have h := Memory.mem_write h
    generalize pifBase = b at *
    rcases h with h | h
    · rcases ih h with h | h
      · exact .inl h
      · exact .inr (by omega)
    · exact .inr (by omega)

theorem runSerial_mem (s : State) : (runSerial s).mem = pifFill s.draws (pifBytes s.mem) 64 s.mem := by rw [runSerial]

/-- The serial-bus command processor changes memory and takes one draw (R470). -/
theorem runSerial_frame (s : State) : runSerial s = { s with mem := (runSerial s).mem, draws := s.draws + 1 } := by
  rw [runSerial]

theorem storeBytes_wf (a : Nat) (w : Width) (v : Dword) {s : State} (h : s.mem.wf = true) :
    (storeBytes a w v s).mem.wf = true := by
  by_cases ht : a ≤ pifTrigger ∧ pifTrigger < a + w.bytes
  · rw [storeBytes_trigger ht, runSerial_mem]; exact pifFill_wf _ _ _ (Memory.wf_writeBE h _ _ _)
  · rw [storeBytes_plain ht]; exact Memory.wf_writeBE h _ _ _

end Sys2Proof.Machine
end

