-- ==== Sys2Proof/Laws/Devices.lean ====
section
/-! SUPPORT. What an access to the physical bus can change: memory, the devices, the queue, the draw counter and Cause.IP2, never a
register of the CPU, COP0 or the TLB (R117, R126, R466, R472). -/

namespace Sys2Proof.Machine

/-- `t` differs from `s` only in what a bus access can change. -/
structure SameCpu (s t : State) : Prop where
  gprs : t.gprs = s.gprs
  hi : t.hi = s.hi
  lo : t.lo = s.lo
  prevPc : t.prevPc = s.prevPc
  pc : t.pc = s.pc
  nextPc : t.nextPc = s.nextPc
  delaySlot : t.delaySlot = s.delaySlot
  prevDelaySlot : t.prevDelaySlot = s.prevDelaySlot
  llbit : t.llbit = s.llbit
  fatal : t.fatal = s.fatal
  cop0 : t.cop0 = { s.cop0 with cause := t.cop0.cause }
  cause : ∀ k, k ≠ 10 → t.cop0.cause.getLsbD k = s.cop0.cause.getLsbD k
  tlb : t.tlb = s.tlb
  fcr31 : t.fcr31 = s.fcr31
  fgrs : t.fgrs = s.fgrs
  now : t.now = s.now
  inputs : t.inputs = s.inputs
  frames : t.frames = s.frames

theorem SameCpu.refl (s : State) : SameCpu s s := by constructor <;> simp

theorem SameCpu.trans {s t u : State} (h : SameCpu s t) (g : SameCpu t u) : SameCpu s u where
  gprs := g.gprs.trans h.gprs
  hi := g.hi.trans h.hi
  lo := g.lo.trans h.lo
  prevPc := g.prevPc.trans h.prevPc
  pc := g.pc.trans h.pc
  nextPc := g.nextPc.trans h.nextPc
  delaySlot := g.delaySlot.trans h.delaySlot
  prevDelaySlot := g.prevDelaySlot.trans h.prevDelaySlot
  llbit := g.llbit.trans h.llbit
  fatal := g.fatal.trans h.fatal
  cop0 := by rw [g.cop0, h.cop0]
  cause k hk := (g.cause k hk).trans (h.cause k hk)
  tlb := g.tlb.trans h.tlb
  fcr31 := g.fcr31.trans h.fcr31
  fgrs := g.fgrs.trans h.fgrs
  now := g.now.trans h.now
  inputs := g.inputs.trans h.inputs
  frames := g.frames.trans h.frames

/-- The mode and every view of Status are those of before. -/
theorem SameCpu.status {s t : State} (h : SameCpu s t) : t.cop0.status = s.cop0.status := by rw [h.cop0]

theorem SameCpu.mode {s t : State} (h : SameCpu s t) : t.mode = s.mode := by
  unfold State.mode State.erl State.exl State.ksu; rw [h.status]

/-! ## Bits -/

theorem getLsbD_writeBit {n : Nat} (x : BitVec n) (k j : Nat) (b : Bool) (hk : k < n) :
    (writeBit x k b).getLsbD j = if j = k then b else x.getLsbD j := by
  unfold writeBit
  cases b
  · simp only [Bool.false_eq_true, if_false, BitVec.getLsbD_and, BitVec.getLsbD_not, BitVec.getLsbD_twoPow]
    by_cases h : j = k
    · subst h; simp [hk]
    · by_cases hj : j < n
      · simp [hj, h, Ne.symm h]
      · simp [BitVec.getLsbD_of_ge x j (by omega), h]
  · simp only [if_true, BitVec.getLsbD_or, BitVec.getLsbD_twoPow]
    by_cases h : j = k
    · subst h; simp [hk]
    · simp [h, Ne.symm h]

/-- Cause.IP2 follows MI after Recompute, and no other bit of Cause changes (R433). -/
theorem recompute_cause (s : State) (k : Nat) :
    (recompute s).cop0.cause.getLsbD k =
      if k = 10 then (s.mi.intr &&& s.mi.mask) != 0#6 else s.cop0.cause.getLsbD k := by
  simp only [recompute]
  rw [getLsbD_writeBit _ _ _ _ (by decide)]

theorem same_recompute (s : State) : SameCpu s (recompute s) := by
  constructor <;> try rfl
  intro k hk
  rw [recompute_cause, if_neg hk]

theorem same_setMiIntr (k : Nat) (b : Bool) (s : State) : SameCpu s (setMiIntr k b s) :=
  (SameCpu.mk rfl rfl rfl rfl rfl rfl rfl rfl rfl rfl rfl (fun _ _ => rfl) rfl rfl rfl rfl rfl rfl :
    SameCpu s { s with mi := { s.mi with intr := writeBit s.mi.intr k b } }).trans (same_recompute _)

theorem same_setTimer (d : Nat) (k : EventKind) (s : State) : SameCpu s (setTimer d k s) := by
  constructor <;> first | rfl | exact fun _ _ => rfl

/-- Memory and the draw counter are not the CPU's. -/
theorem same_memory (s : State) (m : Memory) (n : Nat) : SameCpu s { s with mem := m, draws := n } := by
  constructor <;> first | rfl | exact fun _ _ => rfl

theorem same_devices (s : State) (mi : Mi) (vi : Vi) (pi : Pi) (sp : Sp) (dev : DevState) (mem : Memory) :
    SameCpu s { s with mi := mi, vi := vi, pi := pi, sp := sp, dev := dev, mem := mem } := by
  constructor <;> first | rfl | exact fun _ _ => rfl

/-! ## The cartridge -/

/-- Reading cartridge bytes may take draws, and changes nothing else. -/
theorem cartByte_frame (o : Nat) (s : State) : (cartByte o s).2 = { s with draws := (cartByte o s).2.draws } := by
  unfold cartByte
  cases h : s.inputs.cart[o]? <;> simp [State.draw]

theorem cartByte_listed {o : Nat} {s : State} {b : Byte} (h : s.inputs.cart[o]? = some b) : cartByte o s = (b, s) := by
  simp [cartByte, h]

theorem cartRead_frame (o n : Nat) (s : State) : (cartRead o n s).2 = { s with draws := (cartRead o n s).2.draws } := by
  induction n with
  | zero => rfl
  | succ n ih =>
    have e : (cartRead o (n + 1) s).2 = (cartByte (o + n) (cartRead o n s).2).2 := rfl
    rw [e, cartByte_frame]
    generalize (cartByte (o + n) (cartRead o n s).2).2.draws = d
    rw [ih]

/-! ## The PI DMA -/

/-- The copy of a PI DMA changes memory and the draw counter. -/
theorem piCopy_frame (n d o : Nat) (s : State) :
    piCopy n d o s = { s with mem := (piCopy n d o s).mem, draws := (piCopy n d o s).draws } := by
  induction n generalizing d o s with
  | zero => rfl
  | succ n ih =>
    have e : piCopy (n + 1) d o s =
        piCopy n (d + 1) (o + 1) { (cartByte o s).2 with mem := (cartByte o s).2.mem.write d (cartByte o s).1 } := rfl
    rw [e, ih]
    generalize (piCopy n (d + 1) (o + 1) _).mem = m
    generalize (piCopy n (d + 1) (o + 1) _).draws = c
    rw [cartByte_frame]

theorem same_piCopy (n d o : Nat) (s : State) : SameCpu s (piCopy n d o s) := by
  rw [piCopy_frame]; exact same_memory s _ _

theorem piTransfer_frame (len d c : Nat) (s : State) :
    ∃ u e f n, u = piCopy len d (c - 0x10000000) s ∧
      piTransfer len d c s = { setTimer (piDmaCycles s.inputs len) .piDmaDone u with
        pi := { dramAddr := e, cartAddr := f, busy := true }, draws := n } := by
  unfold piTransfer
  generalize piCopy len d (c - 0x10000000) s = u
  exact ⟨u, _, _, _, rfl, rfl⟩

/-- A PI DMA that starts (R466) is not busy, from even addresses and in range. -/
theorem piStartDma_eq_ok {v : Word} {s t : State} : piStartDma v s = .ok () t ↔
    s.pi.busy = false ∧ s.pi.dramAddr.toNat % 2 = 0 ∧ s.pi.cartAddr.toNat % 2 = 0 ∧
    s.pi.dramAddr.toNat + ((v.setWidth 24).toNat + 1) ≤ rdramBytes s.inputs.rdram ∧ 0x10000000 ≤ s.pi.cartAddr.toNat ∧
    s.pi.cartAddr.toNat + ((v.setWidth 24).toNat + 1) ≤ 0x1FC00000 ∧
    t = piTransfer ((v.setWidth 24).toNat + 1) s.pi.dramAddr.toNat s.pi.cartAddr.toNat s := by
  unfold piStartDma piDma
  generalize piTransfer _ _ _ s = u
  generalize (v.setWidth 24).toNat + 1 = len
  generalize s.pi.dramAddr.toNat = d
  generalize s.pi.cartAddr.toNat = c
  cases s.pi.busy
  · by_cases h2 : d % 2 = 1 ∨ c % 2 = 1
    · simp only [Bool.false_eq_true, if_false, if_pos h2, reduceCtorEq, false_iff]; omega
    · by_cases h3 : rdramBytes s.inputs.rdram < d + len ∨ c < 0x10000000 ∨ 0x1FC00000 < c + len
      · simp only [Bool.false_eq_true, if_false, if_neg h2, if_pos h3, reduceCtorEq, false_iff]; omega
      · simp only [Bool.false_eq_true, if_false, if_neg h2, if_neg h3, done_eq_ok, true_and]
        constructor
        · intro h; exact ⟨by omega, by omega, by omega, by omega, by omega, h⟩
        · exact fun h => h.2.2.2.2.2
  · simp

theorem piStartDma_same {v : Word} {s t : State} (h : piStartDma v s = .ok () t) : SameCpu s t := by
  obtain ⟨_, _, _, _, _, _, rfl⟩ := piStartDma_eq_ok.1 h
  obtain ⟨u, e, f, n, hu, ht⟩ := piTransfer_frame ((v.setWidth 24).toNat + 1) s.pi.dramAddr.toNat s.pi.cartAddr.toNat s
  have h1 : SameCpu s u := hu ▸ same_piCopy _ _ _ s
  refine h1.trans ?_
  rw [ht]
  constructor <;> first | rfl | exact fun _ _ => rfl

theorem piStartDma_ne_raised {v : Word} {s t : State} : piStartDma v s ≠ .raised t := by
  unfold piStartDma piDma
  generalize piTransfer _ _ _ s = u
  repeat' split
  all_goals first | exact done_ne_raised | simp

/-! ## DEV -/

theorem same_applyDev (win : Window) (off : Nat) (ans : DevAnswer) (s : State) : SameCpu s (applyDev win off ans s) :=
  (SameCpu.mk rfl rfl rfl rfl rfl rfl rfl rfl rfl rfl rfl (fun _ _ => rfl) rfl rfl rfl rfl rfl rfl :
    SameCpu s { s with
      dev := ans.state
      mem := devWrites win off s.inputs.rdram ans.memWrites s.mem
      mi := { s.mi with intr := devIntr win ans s.mi.intr } }).trans (same_recompute _)

/-- A DEV call answers Fatal(DEVICE) with no effect, or makes the effects of its answer that R472 allows. -/
theorem devCall_cases (win : Window) (base off : Nat) (op : DevOp) (s : State) :
    devCall win base off op s = .fatal .device s ∨
    devCall win base off op s =
      .ok (devAnswer win base off op s).result (applyDev win off (devAnswer win base off op s) s) := by
  simp only [devCall]; split <;> simp

theorem devCall_same {win : Window} {base off : Nat} {op : DevOp} {s t : State} {v : Word}
    (h : devCall win base off op s = .ok v t) : SameCpu s t := by
  rcases devCall_cases win base off op s with h' | h'
  · rw [h'] at h; simp at h
  · rw [h'] at h
    simp only [Res.ok.injEq] at h
    rw [← h.2]; exact same_applyDev _ _ _ _

theorem devCall_ne_raised {win : Window} {base off : Nat} {op : DevOp} {s t : State} :
    devCall win base off op s ≠ .raised t := by
  rcases devCall_cases win base off op s with h | h <;> rw [h] <;> simp

/-! ## Register windows -/

theorem same_draw (s : State) : SameCpu s s.draw.2 := same_memory s s.mem (s.draws + 1)

theorem deviceRead_same {win : Window} {base off : Nat} {s t : State} {v : Word}
    (h : deviceRead win base off s = .ok v t) : SameCpu s t := by
  unfold deviceRead at h
  repeat' split at h
  all_goals first
    | exact devCall_same h
    | (injection h with h1 h2; subst h2; first | exact SameCpu.refl _ | exact same_draw _)

theorem deviceRead_ne_raised {win : Window} {base off : Nat} {s t : State} : deviceRead win base off s ≠ .raised t := by
  unfold deviceRead
  repeat' split
  all_goals first | exact devCall_ne_raised | simp

theorem devStore_same {win : Window} {base off : Nat} {v : Word} {s t : State}
    (h : devStore win base off v s = .ok () t) : SameCpu s t := by
  unfold devStore at h
  obtain ⟨a, u, h1, h2⟩ := bind_eq_ok.1 h
  rw [done_eq_ok.1 h2]; exact devCall_same h1

theorem devStore_ne_raised {win : Window} {base off : Nat} {v : Word} {s t : State} :
    devStore win base off v s ≠ .raised t := by
  intro h
  unfold devStore at h
  rcases bind_eq_raised.1 h with h | ⟨a, u, _, h⟩
  · exact devCall_ne_raised h
  · exact done_ne_raised h

theorem same_miModeWrite (v : Word) (s : State) : SameCpu s (miModeWrite v s) := by
  have h : ∀ m : Mi, SameCpu s { s with mi := m } := fun m => same_devices s m s.vi s.pi s.sp s.dev s.mem
  simp only [miModeWrite]
  split
  · exact (h _).trans (same_setMiIntr _ _ _)
  · exact h _

theorem same_miMaskWrite (v : Word) (s : State) : SameCpu s (miMaskWrite v s) :=
  (same_devices s { s.mi with mask := miMaskAfter v s.mi.mask } s.vi s.pi s.sp s.dev s.mem).trans (same_recompute _)

theorem same_viWrite (off : Nat) (x : Word) (s : State) : SameCpu s (viWrite off x s) := by
  unfold viWrite
  split
  all_goals first
    | exact same_setMiIntr _ _ _
    | exact same_devices s s.mi _ s.pi s.sp s.dev s.mem

theorem same_spStatusWrite (v : Word) (s : State) : SameCpu s (spStatusWrite v s) :=
  (same_devices s s.mi s.vi s.pi _ s.dev s.mem).trans (same_setMiIntr _ _ _)

theorem deviceWrite_same {win : Window} {base off : Nat} {v : Word} {s t : State}
    (h : deviceWrite win base off v s = .ok () t) : SameCpu s t := by
  have store : ∀ {win}, devStore win base off v s = .ok () t → SameCpu s t := devStore_same
  unfold deviceWrite at h
  split at h
  · split at h
    · rw [done_eq_ok.1 h]; exact same_miModeWrite _ _
    · rw [done_eq_ok.1 h]; exact SameCpu.refl _
    · rw [done_eq_ok.1 h]; exact SameCpu.refl _
    · rw [done_eq_ok.1 h]; exact same_miMaskWrite _ _
    · exact store h
  · split at h
    · rw [done_eq_ok.1 h]; exact same_viWrite _ _ _
    · exact store h
  · split at h
    · rw [done_eq_ok.1 h]; exact same_devices s s.mi s.vi _ s.sp s.dev s.mem
    · rw [done_eq_ok.1 h]; exact same_devices s s.mi s.vi _ s.sp s.dev s.mem
    · exact absurd h (by simp)
    · exact piStartDma_same h
    · rw [done_eq_ok.1 h]
      split
      · exact same_setMiIntr _ _ _
      · exact SameCpu.refl _
    · exact store h
  · split at h
    · rw [done_eq_ok.1 h]; exact same_spStatusWrite _ _
    · exact store h
  · exact store h

theorem deviceWrite_ne_raised {win : Window} {base off : Nat} {v : Word} {s t : State} :
    deviceWrite win base off v s ≠ .raised t := by
  unfold deviceWrite
  repeat' split
  all_goals first | exact devStore_ne_raised | exact piStartDma_ne_raised | exact done_ne_raised | simp

/-! ## The bus -/

theorem storeBytes_same (a : Nat) (w : Width) (v : Dword) (s : State) : SameCpu s (storeBytes a w v s) := by
  by_cases h : a ≤ pifTrigger ∧ pifTrigger < a + w.bytes
  · rw [storeBytes_trigger h, runSerial_frame]; exact same_memory _ _ _
  · rw [storeBytes_plain h]; exact same_memory s _ s.draws

/-- A bus read never changes a register of the CPU. -/
theorem busRead_same {pa : Word} {w : Width} {s t : State} {v : Dword} (h : busRead pa w s = .ok v t) : SameCpu s t := by
  unfold busRead at h
  repeat' split at h
  all_goals first
    | (obtain ⟨a, u, h1, h2⟩ := bind_eq_ok.1 h
       simp only [Res.ok.injEq] at h2
       rw [← h2.2]; exact deviceRead_same h1)
    | (simp only [Res.ok.injEq] at h
       rw [← h.2]
       first
         | exact SameCpu.refl _
         | (rw [cartRead_frame]; exact same_memory s s.mem _))
    | exact absurd h (by simp)

theorem busRead_ne_raised {pa : Word} {w : Width} {s t : State} : busRead pa w s ≠ .raised t := by
  intro h
  unfold busRead at h
  repeat' split at h
  all_goals first
    | (rcases bind_eq_raised.1 h with h | ⟨a, u, _, h⟩
       · exact deviceRead_ne_raised h
       · simp at h)
    | exact absurd h (by simp)

/-- A bus write never changes a register of the CPU. -/
theorem busWrite_same {pa : Word} {w : Width} {v : Dword} {s t : State} (h : busWrite pa w v s = .ok () t) : SameCpu s t := by
  unfold busWrite at h
  repeat' split at h
  all_goals first
    | exact deviceWrite_same h
    | (rw [done_eq_ok.1 h]; exact storeBytes_same _ _ _ _)
    | exact absurd h (by simp)

theorem busWrite_ne_raised {pa : Word} {w : Width} {v : Dword} {s t : State} : busWrite pa w v s ≠ .raised t := by
  unfold busWrite
  repeat' split
  all_goals first | exact deviceWrite_ne_raised | exact done_ne_raised | simp

end Sys2Proof.Machine
end

