-- ==== Sys2Proof/Laws/Invariant.lean ====
section
/-! SUPPORT. What keeps `State.DataInv`: one lemma for each kind of update an instruction, an exception, a bus access or a scheduler
event makes. -/

namespace Sys2Proof.Machine

/-! ## Bits outside a mask -/

theorem clear_maskWrite {n : Nat} {m k old v : BitVec n} (h : old &&& ~~~m = 0#n) (hk : k &&& ~~~m = 0#n) :
    maskWrite k old v &&& ~~~m = 0#n := by
  unfold maskWrite
  apply BitVec.eq_of_getLsbD_eq
  intro i hi
  have h1 := congrArg (fun b => b.getLsbD i) h
  have h2 := congrArg (fun b => b.getLsbD i) hk
  simp only [BitVec.getLsbD_and, BitVec.getLsbD_or, BitVec.getLsbD_not, BitVec.getLsbD_zero, hi, decide_true, Bool.true_and] at h1 h2 ⊢
  generalize m.getLsbD i = a at *; generalize old.getLsbD i = b at *; generalize k.getLsbD i = c at *
  generalize v.getLsbD i = d
  cases a <;> cases b <;> cases c <;> cases d <;> simp_all

theorem clear_and {n : Nat} {m v k : BitVec n} (hk : k &&& ~~~m = 0#n) : (v &&& k) &&& ~~~m = 0#n := by
  rw [BitVec.and_assoc, hk, BitVec.and_zero]

theorem clear_or {n : Nat} {m a b : BitVec n} (ha : a &&& ~~~m = 0#n) (hb : b &&& ~~~m = 0#n) : (a ||| b) &&& ~~~m = 0#n := by
  apply BitVec.eq_of_getLsbD_eq
  intro i hi
  have h1 := congrArg (fun b => b.getLsbD i) ha
  have h2 := congrArg (fun b => b.getLsbD i) hb
  simp only [BitVec.getLsbD_and, BitVec.getLsbD_or, BitVec.getLsbD_not, BitVec.getLsbD_zero, hi, decide_true, Bool.true_and] at h1 h2 ⊢
  generalize m.getLsbD i = x at *; generalize a.getLsbD i = y at *; generalize b.getLsbD i = z at *
  cases x <;> cases y <;> cases z <;> simp_all

theorem clear_sub {n : Nat} {m x : BitVec n} (k : BitVec n) (h : x &&& ~~~m = 0#n) : (x &&& k) &&& ~~~m = 0#n := by
  rw [BitVec.and_assoc, BitVec.and_comm k, ← BitVec.and_assoc, h, BitVec.zero_and]

/-- Bits outside the mask of a write are kept. -/
theorem kept_maskWrite {n : Nat} {m k old v : BitVec n} (hk : k &&& ~~~m = 0#n) :
    maskWrite k old v &&& ~~~m = old &&& ~~~m := by
  unfold maskWrite
  apply BitVec.eq_of_getLsbD_eq
  intro i hi
  have h2 := congrArg (fun b => b.getLsbD i) hk
  simp only [BitVec.getLsbD_and, BitVec.getLsbD_or, BitVec.getLsbD_not, BitVec.getLsbD_zero, hi, decide_true, Bool.true_and] at h2 ⊢
  generalize m.getLsbD i = a at *; generalize old.getLsbD i = b at *; generalize k.getLsbD i = c at *
  generalize v.getLsbD i = d
  cases a <;> cases b <;> cases c <;> cases d <;> simp_all

theorem getLsbD_maskWrite {n : Nat} (k old v : BitVec n) (i : Nat) :
    (maskWrite k old v).getLsbD i = if k.getLsbD i then v.getLsbD i else old.getLsbD i := by
  unfold maskWrite
  by_cases hi : i < n
  · simp only [BitVec.getLsbD_or, BitVec.getLsbD_and, BitVec.getLsbD_not, hi]
    cases k.getLsbD i <;> simp
  · simp [BitVec.getLsbD_of_ge _ i (Nat.le_of_not_lt hi)]

theorem writeBit_eq_maskWrite {n : Nat} (x : BitVec n) (k : Nat) (b : Bool) (hk : k < n) :
    writeBit x k b = maskWrite (BitVec.twoPow n k) x (if b then BitVec.allOnes n else 0#n) := by
  apply BitVec.eq_of_getLsbD_eq
  intro i hi
  rw [getLsbD_writeBit _ _ _ _ hk, getLsbD_maskWrite, BitVec.getLsbD_twoPow]
  by_cases h : i = k
  · subst h; cases b <;> simp [hi]
  · simp [h, Ne.symm h]

theorem clear_writeBit {n : Nat} {m x : BitVec n} {k : Nat} {b : Bool} (hk : k < n) (h : x &&& ~~~m = 0#n)
    (hm : BitVec.twoPow n k &&& ~~~m = 0#n) : writeBit x k b &&& ~~~m = 0#n := by
  rw [writeBit_eq_maskWrite _ _ _ hk]; exact clear_maskWrite h hm

/-! ## The general form of an update -/

/-- An update that touches neither memory, nor the devices, nor the queue keeps the invariant if what it writes is legal. -/
theorem State.DataInv.update {s t : State} (h : s.DataInv) (hf : t.fatal = s.fatal) (hm : t.mem = s.mem)
    (hi : t.inputs = s.inputs) (hz : t.gprs[0] = 0#64) (hc : t.cop0.Legal)
    (hp : t.cop0.cause.getLsbD 10 = s.cop0.cause.getLsbD 10) (hmi : t.mi = s.mi) (ht : ∀ e ∈ t.tlb.toList, e.Legal)
    (hr : t.fcr31 &&& ~~~0x0183FFFF#32 = 0#32) (hq : t.queue = s.queue) (hn : t.nextSeq = s.nextSeq)
    (hb : t.pi.busy = s.pi.busy) : t.DataInv where
  running := by rw [hf]; exact h.running
  memForm := by rw [hm]; exact h.memForm
  memPlace := by rw [hm, hi]; exact h.memPlace
  zero := hz
  cop0 := hc
  ip2 := by rw [hp, hmi]; exact h.ip2
  tlb := ht
  fcr31 := hr
  queue := by rw [hq]; exact h.queue
  seqs := by rw [hq, hn]; exact h.seqs
  viLine := by rw [hq]; exact h.viLine
  piBusy := by rw [hq, hb]; exact h.piBusy
  lineCycles := by rw [hi]; exact h.lineCycles

theorem State.DataInv.setGpr {s : State} (h : s.DataInv) (r : Reg) (v : Dword) : (s.setGpr r v).DataInv :=
  h.update (setGpr_fatal s r v) (setGpr_mem s r v) (setGpr_inputs s r v)
    (by
      unfold State.setGpr
      split
      · exact h.zero
      · next hr =>
        rw [Vector.getElem_set, if_neg]
        · exact h.zero
        · intro h0; exact hr (BitVec.eq_of_toNat_eq h0))
    (by rw [setGpr_cop0]; exact h.cop0) (by rw [setGpr_cop0]) (setGpr_mi s r v)
    (by rw [setGpr_tlb]; exact h.tlb) (by rw [setGpr_fcr31]; exact h.fcr31) (setGpr_queue s r v) (setGpr_nextSeq s r v)
    (by rw [setGpr_pi])

/-- The registers the invariant says nothing about. -/
theorem State.DataInv.control {s : State} (h : s.DataInv) (hi lo prevPc pc nextPc : Dword) (d p l : Bool)
    (f : Vector Dword 32) (n : Nat) :
    ({ s with hi := hi, lo := lo, prevPc := prevPc, pc := pc, nextPc := nextPc, delaySlot := d, prevDelaySlot := p,
              llbit := l, fgrs := f, draws := n } : State).DataInv :=
  h.update rfl rfl rfl h.zero h.cop0 rfl rfl h.tlb h.fcr31 rfl rfl rfl

/-- A legal COP0 whose Cause.IP2 is that of before. -/
theorem State.DataInv.setCop0 {s : State} (h : s.DataInv) {c : Cop0} (hc : c.Legal)
    (hp : c.cause.getLsbD 10 = s.cop0.cause.getLsbD 10) : ({ s with cop0 := c } : State).DataInv :=
  h.update rfl rfl rfl h.zero hc hp rfl h.tlb h.fcr31 rfl rfl rfl

theorem State.DataInv.setFcr31 {s : State} (h : s.DataInv) {v : Word} (hv : v &&& ~~~0x0183FFFF#32 = 0#32) :
    ({ s with fcr31 := v } : State).DataInv :=
  h.update rfl rfl rfl h.zero h.cop0 rfl rfl h.tlb hv rfl rfl rfl

theorem State.DataInv.setTlb {s : State} (h : s.DataInv) {n : Nat} (hn : n < 32) {e : TlbEntry} (he : e.Legal) :
    ({ s with tlb := s.tlb.set n e hn } : State).DataInv :=
  h.update rfl rfl rfl h.zero h.cop0 rfl rfl
    (by
      intro x hx
      rw [Vector.mem_toList_iff] at hx
      have hx : x ∈ s.tlb.set n e hn := hx
      rcases Vector.mem_or_eq_of_mem_set hx with hx | hx
      · exact h.tlb x (Vector.mem_toList_iff.2 hx)
      · rw [hx]; exact he)
    h.fcr31 rfl rfl rfl

/-! ## Exceptions -/

theorem bits_low : (∀ i, i < 4 → (0x00000000007FFFF0#64).getLsbD i = false) ∧
    (∀ i, i < 4 → (0x00000001FFFFFFF0#64).getLsbD i = false) ∧ ∀ i < 64, ¬i < 4 → (0xF#64).getLsbD i = false := by decide

theorem recordAddress_legal {c : Cop0} (h : c.Legal) (k : Exc) : (recordAddress k c).Legal := by
  have page : ∀ va, (recordPage va c).Legal := fun va => { h with
    context := by
      apply BitVec.eq_of_getLsbD_eq
      intro i hi
      have h1 := congrArg (fun b => b.getLsbD i) h.context
      simp only [recordPage, BitVec.getLsbD_and, getLsbD_maskWrite, BitVec.getLsbD_zero] at h1 ⊢
      by_cases h4 : i < 4
      · have : (0x00000000007FFFF0#64).getLsbD i = false := bits_low.1 i h4
        rw [this]; exact h1
      · have : (0xF#64 : Dword).getLsbD i = false := bits_low.2.2 i hi h4
        rw [this, Bool.and_false]
    xContext := by
      apply BitVec.eq_of_getLsbD_eq
      intro i hi
      have h1 := congrArg (fun b => b.getLsbD i) h.xContext
      simp only [recordPage, BitVec.getLsbD_and, getLsbD_maskWrite, BitVec.getLsbD_zero] at h1 ⊢
      by_cases h4 : i < 4
      · have : (0x00000001FFFFFFF0#64).getLsbD i = false := bits_low.2.1 i h4
        rw [this]; exact h1
      · have : (0xF#64 : Dword).getLsbD i = false := bits_low.2.2 i hi h4
        rw [this, Bool.and_false]
    entryHi := clear_or (clear_and (by decide)) (clear_and (by decide)) }
  cases k <;> first | exact page _ | exact { h with }

theorem causeWithCode_legal {c : Word} (h : c &&& ~~~0xB000877C#32 = 0#32) (code : BitVec 5) (ce : BitVec 2) :
    causeWithCode code ce c &&& ~~~0xB000877C#32 = 0#32 := clear_maskWrite h (by decide)

theorem causeWithCode_ip2 (c : Word) (code : BitVec 5) (ce : BitVec 2) :
    (causeWithCode code ce c).getLsbD 10 = c.getLsbD 10 := by
  unfold causeWithCode
  rw [getLsbD_maskWrite, if_neg (by decide)]

theorem State.DataInv.enterException {s : State} (h : s.DataInv) (k : Exc) (p : Bool) : (enterException k p s).DataInv := by
  have hc : (Machine.enterException k p s).cop0.Legal ∧
      (Machine.enterException k p s).cop0.cause.getLsbD 10 = s.cop0.cause.getLsbD 10 := by
    cases hx : s.exl
    · rw [enterException_cop0_fresh hx]
      refine ⟨recordAddress_legal ?_ k, ?_⟩
      · exact { h.cop0 with
          status := clear_or h.cop0.status (by decide)
          cause := causeWithCode_legal (clear_writeBit (by decide) h.cop0.cause (by decide)) _ _ }
      · rw [recordAddress_frame]
        simp only [causeWithCode_ip2]
        rw [getLsbD_writeBit _ _ _ _ (by decide), if_neg (by decide)]
    · rw [enterException_cop0_nested hx]
      refine ⟨recordAddress_legal ?_ k, ?_⟩
      · exact { h.cop0 with cause := causeWithCode_legal h.cop0.cause _ _ }
      · rw [recordAddress_frame]
        simp only [causeWithCode_ip2]
  exact h.update rfl rfl rfl h.zero hc.1 hc.2 rfl h.tlb h.fcr31 rfl rfl rfl

theorem State.DataInv.returnFromException {s : State} (h : s.DataInv) : (returnFromException s).DataInv := by
  unfold Machine.returnFromException
  split
  · exact (h.update (t := _) rfl rfl rfl h.zero
      { h.cop0 with status := clear_sub _ h.cop0.status } rfl rfl h.tlb h.fcr31 rfl rfl rfl)
  · exact (h.update (t := _) rfl rfl rfl h.zero
      { h.cop0 with status := clear_sub _ h.cop0.status } rfl rfl h.tlb h.fcr31 rfl rfl rfl)

/-! ## Memory -/

theorem State.DataInv.setMem {s : State} (h : s.DataInv) {m : Memory} {n : Nat} (hm : m.wf = true)
    (hp : ∀ c ∈ m, inByteArray s.inputs.rdram c.1 = true) : ({ s with mem := m, draws := n } : State).DataInv :=
  { h with memForm := hm, memPlace := hp }

theorem State.DataInv.writeBE_place {s : State} (h : s.DataInv) {a : Nat} {w : Width} (ha : a % w.bytes = 0)
    (hb : s.bytesAt a) (v : Dword) : ∀ c ∈ s.mem.writeBE a w.bytes v, inByteArray s.inputs.rdram c.1 = true := by
  intro c hc
  rcases Memory.mem_writeBE hc with hc | hc
  · exact h.memPlace c hc
  · exact inByteArray_aligned (Width.bytes_cases w) ha hb hc.1 hc.2

theorem State.DataInv.storeBytes {s : State} (h : s.DataInv) {a : Nat} {w : Width} (ha : a % w.bytes = 0)
    (hb : s.bytesAt a) (v : Dword) : (storeBytes a w v s).DataInv := by
  by_cases ht : a ≤ pifTrigger ∧ pifTrigger < a + w.bytes
  · rw [storeBytes_trigger ht, runSerial_frame, runSerial_mem]
    refine h.setMem (pifFill_wf _ _ _ (Memory.wf_writeBE h.memForm _ _ _)) ?_
    intro c hc
    rcases mem_pifFill hc with hc | hc
    · exact h.writeBE_place ha hb v c hc
    · rw [inByteArray_iff]
      unfold pifBase at hc
      omega
  · rw [storeBytes_plain ht]
    exact h.setMem (n := s.draws) (Memory.wf_writeBE h.memForm _ _ _) (h.writeBE_place ha hb v)

/-! ## MI -/

theorem recompute_legal {s : State} (h : s.cop0.Legal) : (recompute s).cop0.Legal :=
  { h with cause := clear_writeBit (by decide) h.cause (by decide) }

/-- What Recompute needs: everything but Cause.IP2. -/
theorem State.DataInv.recompute {s : State} (h : s.DataInv) (mi : Mi) (vi : Vi) (sp : Sp) (dev : DevState)
    {m : Memory} (hm : m.wf = true) (hp : ∀ c ∈ m, inByteArray s.inputs.rdram c.1 = true) :
    (recompute { s with mi := mi, vi := vi, sp := sp, dev := dev, mem := m }).DataInv :=
  { h with
    memForm := hm
    memPlace := hp
    cop0 := recompute_legal h.cop0
    ip2 := by rw [recompute_cause, if_pos rfl]; rfl }

theorem State.DataInv.setMiIntr {s : State} (h : s.DataInv) (k : Nat) (b : Bool) : (setMiIntr k b s).DataInv :=
  h.recompute _ s.vi s.sp s.dev h.memForm h.memPlace

/-! ## The queue -/

theorem mem_enqueue {e x : Event} {q : List Event} : x ∈ enqueue e q ↔ x = e ∨ x ∈ q := by
  induction q with
  | nil => simp [enqueue]
  | cons y q ih =>
    simp only [enqueue]
    split
    · simp
    · simp only [List.mem_cons, ih]; tauto

theorem Event.before_trans {a b c : Event} (h : a.before b = true) (g : b.before c = true) : a.before c = true := by
  simp only [Event.before, Bool.or_eq_true, Bool.and_eq_true, decide_eq_true_eq, beq_iff_eq] at *
  omega

/-- Events in order, none with the number of a new one: inserting it keeps the order. -/
theorem enqueue_sorted {e : Event} {q : List Event} (h : q.Pairwise fun a b => a.before b = true)
    (hs : ∀ x ∈ q, x.seq < e.seq) : (enqueue e q).Pairwise fun a b => a.before b = true := by
  induction q with
  | nil => simp [enqueue]
  | cons y q ih =>
    rw [List.pairwise_cons] at h
    simp only [enqueue]
    split
    · next hb =>
      rw [List.pairwise_cons, List.pairwise_cons]
      refine ⟨?_, h⟩
      intro x hx
      rcases List.mem_cons.1 hx with rfl | hx
      · exact hb
      · exact Event.before_trans hb (h.1 x hx)
    · next hb =>
      rw [List.pairwise_cons]
      refine ⟨?_, ih h.2 fun x hx => hs x (List.mem_cons_of_mem _ hx)⟩
      intro x hx
      rcases mem_enqueue.1 hx with rfl | hx
      · have := hs y List.mem_cons_self
        simp only [Event.before, Bool.or_eq_true, Bool.and_eq_true, decide_eq_true_eq, beq_iff_eq] at hb ⊢
        omega
      · exact h.1 x hx

theorem filter_enqueue (e : Event) (q : List Event) (p : Event → Bool) :
    ((enqueue e q).filter p).length = (q.filter p).length + if p e then 1 else 0 := by
  induction q with
  | nil => simp [enqueue, List.filter_cons]; split <;> rfl
  | cons y q ih =>
    simp only [enqueue]
    split
    · simp only [List.filter_cons]
      by_cases hy : p y = true <;> by_cases he : p e = true <;> simp [hy, he]
    · simp only [List.filter_cons]
      by_cases hy : p y = true
      · simp only [hy, if_true, List.length_cons, ih]; omega
      · simp only [hy, Bool.false_eq_true, if_false, ih]

/-! ## PI DMA -/

theorem piCopy_wf (n d o : Nat) {s : State} (h : s.mem.wf = true) : (piCopy n d o s).mem.wf = true := by
  induction n generalizing d o s with
  | zero => exact h
  | succ n ih =>
    have e : piCopy (n + 1) d o s =
        piCopy n (d + 1) (o + 1) { (cartByte o s).2 with mem := (cartByte o s).2.mem.write d (cartByte o s).1 } := rfl
    rw [e]
    refine ih _ _ (Memory.wf_write ?_ _ _)
    rw [cartByte_frame]; exact h

theorem mem_piCopy {n d o : Nat} {s : State} {c : Host.Cell} (h : c ∈ (piCopy n d o s).mem) :
    c ∈ s.mem ∨ d ≤ c.1 ∧ c.1 < d + n := by
  induction n generalizing d o s with
  | zero => exact .inl h
  | succ n ih =>
    have e : piCopy (n + 1) d o s =
        piCopy n (d + 1) (o + 1) { (cartByte o s).2 with mem := (cartByte o s).2.mem.write d (cartByte o s).1 } := rfl
    rw [e] at h
    rcases ih h with h | h
    · rcases Memory.mem_write h with h | h
      · rw [cartByte_frame] at h; exact .inl h
      · exact .inr (by omega)
    · exact .inr (by omega)

theorem State.DataInv.piStartDma {s t : State} {v : Word} (h : s.DataInv) (hd : piStartDma v s = .ok () t) : t.DataInv := by
  obtain ⟨hb, _, _, hr, _, _, rfl⟩ := piStartDma_eq_ok.1 hd
  obtain ⟨u, e, f, n, hu, ht⟩ := piTransfer_frame ((v.setWidth 24).toNat + 1) s.pi.dramAddr.toNat s.pi.cartAddr.toNat s
  have hm : u.mem.wf = true := hu ▸ piCopy_wf _ _ _ h.memForm
  have hp : ∀ c ∈ u.mem, inByteArray s.inputs.rdram c.1 = true := by
    intro c hc
    rw [hu] at hc
    rcases mem_piCopy hc with hc | hc
    · exact h.memPlace c hc
    · rw [inByteArray_iff]; omega
  have fr := hu.trans (piCopy_frame _ _ _ s)
  rw [← hu] at fr
  rw [ht, fr]
  generalize u.mem = m at *
  exact {
    running := h.running
    memForm := hm
    memPlace := hp
    zero := h.zero
    cop0 := h.cop0
    ip2 := h.ip2
    tlb := h.tlb
    fcr31 := h.fcr31
    queue := enqueue_sorted h.queue h.seqs
    seqs := by
      intro x hx
      rcases mem_enqueue.1 hx with rfl | hx
      · exact Nat.lt_succ_self _
      · exact Nat.lt_succ_of_lt (h.seqs x hx)
    viLine := by
      simp only [setTimer]
      rw [filter_enqueue]; simpa using h.viLine
    piBusy := by
      simp only [setTimer]
      rw [filter_enqueue]
      have := h.piBusy
      rw [hb] at this
      simpa using this
    lineCycles := h.lineCycles }

/-! ## DEV -/

theorem devWrites_wf (win : Window) (off : Nat) (r : RdramSize) (ws : List (Nat × Byte)) {m : Memory} (h : m.wf = true) :
    (devWrites win off r ws m).wf = true := by
  induction ws generalizing m with
  | nil => exact h
  | cons x ws ih =>
    obtain ⟨a, b⟩ := x
    rw [devWrites]
    apply ih
    split
    · exact Memory.wf_write h _ _
    · exact h

/-- A DEV call leaves every byte R472 does not let it write. -/
theorem devWrites_read {win : Window} {off a : Nat} {r : RdramSize} (ws : List (Nat × Byte)) {m : Memory} (h : m.wf = true)
    (ha : devMayWrite win off (windowOf r a) = false) : (devWrites win off r ws m).read a = m.read a := by
  induction ws generalizing m with
  | nil => rfl
  | cons x ws ih =>
    obtain ⟨b, c⟩ := x
    rw [devWrites]
    split
    · next hb =>
      rw [ih (Memory.wf_write h _ _), Memory.read_write h, if_neg]
      rintro rfl
      rw [ha] at hb; exact absurd hb (by decide)
    · exact ih h

/-- A DEV call changes the SI bit from the SI window, the AI bit from the AI window, and only sets the DP bit (R472). -/
theorem getLsbD_devIntr (win : Window) (ans : DevAnswer) (x : BitVec 6) (k : Nat) :
    (devIntr win ans x).getLsbD k =
      if k = 5 ∧ ans.dpIntr = true then true
      else if k = 2 ∧ win = .ai then ans.aiIntr.getD (x.getLsbD 2)
      else if k = 1 ∧ win = .si then ans.siIntr.getD (x.getLsbD 1)
      else x.getLsbD k := by
  have h5 : ∀ y : BitVec 6, (writeBit y 5 true).getLsbD k = if k = 5 then true else y.getLsbD k :=
    fun y => getLsbD_writeBit _ _ _ _ (by decide)
  have h2 : ∀ (y : BitVec 6) b, (writeBit y 2 b).getLsbD k = if k = 2 then b else y.getLsbD k :=
    fun y b => getLsbD_writeBit _ _ _ _ (by decide)
  have h1 : ∀ (y : BitVec 6) b, (writeBit y 1 b).getLsbD k = if k = 1 then b else y.getLsbD k :=
    fun y b => getLsbD_writeBit _ _ _ _ (by decide)
  unfold devIntr
  cases win <;> cases ans.dpIntr <;> cases ans.aiIntr <;> cases ans.siIntr <;>
    simp [h5, h2, h1, -BitVec.getLsbD_eq_getElem] <;> grind

theorem devMayWrite_place {win : Window} {off a : Nat} {r : RdramSize} (h : devMayWrite win off (windowOf r a) = true) :
    inByteArray r a = true := by
  unfold inByteArray
  unfold devMayWrite at h
  split at h
  · next hw =>
    rw [hw]
    simp only [Bool.and_eq_true, Bool.or_eq_true, beq_iff_eq] at h
    rcases h.2 with (h | h) | h <;> rw [h] <;> rfl
  · next hw =>
    rw [hw]
    simp only [Bool.or_eq_true, beq_iff_eq] at h
    rcases h with h | h <;> rw [h] <;> rfl
  · exact absurd h (by simp)

/-- A cell of the memory after a DEV call is old, or at an address R472 allows. -/
theorem mem_devWrites {win : Window} {off : Nat} {r : RdramSize} {ws : List (Nat × Byte)} {m : Memory} {c : Host.Cell}
    (h : c ∈ devWrites win off r ws m) : c ∈ m ∨ devMayWrite win off (windowOf r c.1) = true := by
  induction ws generalizing m with
  | nil => exact .inl h
  | cons x ws ih =>
    obtain ⟨a, b⟩ := x
    rw [devWrites] at h
    rcases ih h with h | h
    · split at h
      · next hw =>
        rcases Memory.mem_write h with h | h
        · exact .inl h
        · right; rw [h]; exact hw
      · exact .inl h
    · exact .inr h

theorem State.DataInv.applyDev {s : State} (h : s.DataInv) (win : Window) (off : Nat) (ans : DevAnswer) :
    (applyDev win off ans s).DataInv :=
  h.recompute _ s.vi s.sp _ (devWrites_wf _ _ _ _ h.memForm) (by
    intro c hc
    rcases mem_devWrites hc with hc | hc
    · exact h.memPlace c hc
    · exact devMayWrite_place hc)

theorem State.DataInv.devCall {s t : State} {win : Window} {base off : Nat} {op : DevOp} {v : Word} (h : s.DataInv)
    (hd : devCall win base off op s = .ok v t) : t.DataInv := by
  rcases devCall_cases win base off op s with h' | h'
  · rw [h'] at hd; simp at hd
  · rw [h'] at hd
    simp only [Res.ok.injEq] at hd
    rw [← hd.2]; exact h.applyDev _ _ _

/-! ## Register windows -/

theorem State.DataInv.devices {s : State} (h : s.DataInv) (vi : Vi) (sp : Sp) (d : BitVec 24) (c : Word) (il : BitVec 7)
    (im eb rr : Bool) (n : Nat) :
    ({ s with vi := vi, sp := sp, pi := { s.pi with dramAddr := d, cartAddr := c }, draws := n
              mi := { s.mi with initLen := il, initMode := im, ebusTest := eb, rdramReg := rr } } : State).DataInv :=
  { h with }

theorem State.DataInv.deviceRead {s t : State} {win : Window} {base off : Nat} {v : Word} (h : s.DataInv)
    (hd : deviceRead win base off s = .ok v t) : t.DataInv := by
  unfold Machine.deviceRead at hd
  repeat' split at hd
  all_goals first
    | exact h.devCall hd
    | (injection hd with h1 h2; subst h2
       first
         | exact h
         | exact h.setMem (n := s.draws + 1) h.memForm h.memPlace)

theorem State.DataInv.devStore {s t : State} {win : Window} {base off : Nat} {v : Word} (h : s.DataInv)
    (hd : devStore win base off v s = .ok () t) : t.DataInv := by
  unfold Machine.devStore at hd
  obtain ⟨a, u, h1, h2⟩ := bind_eq_ok.1 hd
  rw [done_eq_ok.1 h2]; exact h.devCall h1

theorem State.DataInv.deviceWrite {s t : State} {win : Window} {base off : Nat} {v : Word} (h : s.DataInv)
    (hd : deviceWrite win base off v s = .ok () t) : t.DataInv := by
  have store : ∀ {win}, Machine.devStore win base off v s = .ok () t → t.DataInv := h.devStore
  have dev := fun vi sp d c il im eb rr => h.devices vi sp d c il im eb rr s.draws
  unfold Machine.deviceWrite at hd
  split at hd
  · split at hd
    · rw [done_eq_ok.1 hd]
      unfold miModeWrite
      simp only
      split
      · exact (dev s.vi s.sp s.pi.dramAddr s.pi.cartAddr _ _ _ _).setMiIntr _ _
      · exact dev s.vi s.sp s.pi.dramAddr s.pi.cartAddr _ _ _ _
    · rw [done_eq_ok.1 hd]; exact h
    · rw [done_eq_ok.1 hd]; exact h
    · rw [done_eq_ok.1 hd]
      exact h.recompute _ s.vi s.sp s.dev h.memForm h.memPlace
    · exact store hd
  · split at hd
    · rw [done_eq_ok.1 hd]
      unfold viWrite
      split
      all_goals first
        | exact h.setMiIntr _ _
        | exact dev _ s.sp s.pi.dramAddr s.pi.cartAddr s.mi.initLen s.mi.initMode s.mi.ebusTest s.mi.rdramReg
    · exact store hd
  · split at hd
    · rw [done_eq_ok.1 hd]; exact dev s.vi s.sp _ _ s.mi.initLen s.mi.initMode s.mi.ebusTest s.mi.rdramReg
    · rw [done_eq_ok.1 hd]; exact dev s.vi s.sp _ _ s.mi.initLen s.mi.initMode s.mi.ebusTest s.mi.rdramReg
    · exact absurd hd (by simp)
    · exact h.piStartDma hd
    · rw [done_eq_ok.1 hd]
      split
      · exact h.setMiIntr _ _
      · exact h
    · exact store hd
  · split at hd
    · rw [done_eq_ok.1 hd]
      unfold spStatusWrite
      exact (dev s.vi _ s.pi.dramAddr s.pi.cartAddr s.mi.initLen s.mi.initMode s.mi.ebusTest s.mi.rdramReg).setMiIntr _ _
    · exact store hd
  · exact store hd

/-! ## The bus -/

theorem State.DataInv.busRead {s t : State} {pa : Word} {w : Width} {v : Dword} (h : s.DataInv)
    (hb : busRead pa w s = .ok v t) : t.DataInv := by
  unfold Machine.busRead at hb
  repeat' split at hb
  all_goals first
    | (obtain ⟨a, u, h1, h2⟩ := bind_eq_ok.1 hb
       simp only [Res.ok.injEq] at h2
       rw [← h2.2]; exact h.deviceRead h1)
    | (simp only [Res.ok.injEq] at hb
       rw [← hb.2]
       first
         | exact h
         | (rw [cartRead_frame]; exact h.setMem h.memForm h.memPlace))
    | exact absurd hb (by simp)

/-- A bus write of an aligned access keeps the invariant. -/
theorem State.DataInv.busWrite {s t : State} {pa : Word} {w : Width} {v : Dword} (h : s.DataInv)
    (ha : pa.toNat % w.bytes = 0) (hb : busWrite pa w v s = .ok () t) : t.DataInv := by
  by_cases hm : s.bytesAt pa.toNat
  · rw [busWrite_bytes hm] at hb
    simp only [Res.ok.injEq, true_and] at hb
    rw [← hb]; exact h.storeBytes ha hm v
  · unfold Machine.busWrite at hb
    split at hb
    · exact absurd hb (by simp)
    · next win base hw =>
      have : isByteWindow win = false := by
        unfold State.bytesAt inByteArray at hm
        rw [hw] at hm
        simpa using hm
      rw [this] at hb
      simp only [Bool.false_eq_true, if_false] at hb
      repeat' split at hb
      all_goals first
        | exact h.deviceWrite hb
        | exact absurd hb (by simp)

end Sys2Proof.Machine
end

