-- ==== Sys2Proof/Laws/Access.lean ====
section
/-! SUPPORT. Memory accesses seen from outside: containers and byte lanes, values as big-endian numbers, the bytes of a partial store,
cartridge reads, the copy of a PI DMA, and the register windows by address. -/

namespace Sys2Proof.Machine

/-! ## Containers and byte lanes -/

theorem container_word (pa : Word) : container pa .word = BitVec.ofNat 32 (pa.toNat / 4 * 4) := by
  unfold container
  apply BitVec.eq_of_toNat_eq
  have e : pa &&& ~~~(BitVec.ofNat 32 (Width.word.bytes - 1)) = (pa >>> 2) <<< 2 := by
    apply BitVec.eq_of_getLsbD_eq; intro i hi
    rw [BitVec.getLsbD_and, BitVec.getLsbD_shiftLeft, BitVec.getLsbD_ushiftRight, Width.bytes]
    by_cases h : i < 2
    · interval_cases i <;> simp
    · interval_cases i <;> simp_all
  rw [e, BitVec.toNat_shiftLeft, BitVec.toNat_ushiftRight, BitVec.toNat_ofNat]
  simp [Nat.shiftLeft_eq, Nat.shiftRight_eq_div_pow]

theorem container_dword (pa : Word) : container pa .dword = BitVec.ofNat 32 (pa.toNat / 8 * 8) := by
  unfold container
  apply BitVec.eq_of_toNat_eq
  have e : pa &&& ~~~(BitVec.ofNat 32 (Width.dword.bytes - 1)) = (pa >>> 3) <<< 3 := by
    apply BitVec.eq_of_getLsbD_eq; intro i hi
    rw [BitVec.getLsbD_and, BitVec.getLsbD_shiftLeft, BitVec.getLsbD_ushiftRight, Width.bytes]
    by_cases h : i < 3
    · interval_cases i <;> simp
    · interval_cases i <;> simp_all
  rw [e, BitVec.toNat_shiftLeft, BitVec.toNat_ushiftRight, BitVec.toNat_ofNat]
  simp [Nat.shiftLeft_eq, Nat.shiftRight_eq_div_pow]

theorem byteInWord_eq (va : Dword) : byteInWord va = va.toNat % 4 := by simp [byteInWord]

theorem byteInDword_eq (va : Dword) : byteInDword va = va.toNat % 8 := by simp [byteInDword]

/-- A doubleword is determined by its bytes. -/
theorem dword_ext {v w : Dword} (h : ∀ p < 8, v.extractLsb' (8 * p) 8 = w.extractLsb' (8 * p) 8) : v = w := by
  apply BitVec.eq_of_getLsbD_eq; intro i hi
  have e := congrArg (fun b => b.getLsbD (i % 8)) (h (i / 8) (by omega))
  simp [Nat.mod_lt] at e
  rw [show 8 * (i / 8) + i % 8 = i by omega] at e; simpa using e

/-- The low word is determined by its bytes. -/
theorem lo32_ext {v w : Dword} (h : ∀ p < 4, v.extractLsb' (8 * p) 8 = w.extractLsb' (8 * p) 8) : lo32 v = lo32 w := by
  apply BitVec.eq_of_getLsbD_eq; intro i hi
  have e := congrArg (fun b => b.getLsbD (i % 8)) (h (i / 8) (by omega))
  simp [Nat.mod_lt] at e
  simp [lo32, hi]
  rw [show 8 * (i / 8) + i % 8 = i by omega] at e; simpa using e

/-- A store depends on the bytes it stores only. -/
theorem Memory.writeBE_congr (m : Memory) (a : Nat) {n : Nat} {v w : Dword}
    (h : ∀ p < n, v.extractLsb' (8 * p) 8 = w.extractLsb' (8 * p) 8) : m.writeBE a n v = m.writeBE a n w := by
  induction n generalizing v w with
  | zero => rfl
  | succ n ih =>
    rw [Memory.writeBE, Memory.writeBE, ih (v := v >>> 8) (w := w >>> 8)]
    · congr 1
      have := h 0 (by omega)
      apply BitVec.eq_of_getLsbD_eq; intro i hi
      have e := congrArg (fun b => b.getLsbD i) this
      simpa [hi] using e
    · intro p hp
      have := h (p + 1) (by omega)
      apply BitVec.eq_of_getLsbD_eq; intro i hi
      have e := congrArg (fun b => b.getLsbD i) this
      simp [hi] at e ⊢
      rw [show 8 + (8 * p + i) = 8 * (p + 1) + i by omega]; exact e

theorem busWrite_word_congr (pa : Word) {v w : Dword} (s : State)
    (h : ∀ p < 4, v.extractLsb' (8 * p) 8 = w.extractLsb' (8 * p) 8) : busWrite pa .word v s = busWrite pa .word w s := by
  unfold busWrite storeBytes
  simp only [Memory.writeBE_congr s.mem pa.toNat (n := Width.word.bytes) h, lo32_ext h]

/-! ## The container a partial store writes (R321, R334 to R337), byte by byte from the lowest address -/

theorem getLsbD_merge {n : Nat} (old bits mask : BitVec n) (i : Nat) :
    ((old &&& ~~~mask) ||| (bits &&& mask)).getLsbD i = if mask.getLsbD i then bits.getLsbD i else old.getLsbD i :=
  getLsbD_maskWrite mask old bits i
theorem getLsbD_ones64 (i : Nat) : (0xFFFFFFFFFFFFFFFF#64).getLsbD i = decide (i < 64) := BitVec.getLsbD_allOnes
theorem getLsbD_ones32 (i : Nat) : (0xFFFFFFFF#32).getLsbD i = decide (i < 32) := BitVec.getLsbD_allOnes

theorem swl_bytes {k p : Nat} (hk : k < 4) (hp : p < 4) (old v : Dword) :
    ((old &&& ~~~(zext32 (0xFFFFFFFF#32 >>> (8 * k)))) |||
      (zext32 (lo32 v >>> (8 * k)) &&& zext32 (0xFFFFFFFF#32 >>> (8 * k)))).extractLsb' (8 * (3 - p)) 8 =
    if k ≤ p then v.extractLsb' (8 * (3 - (p - k))) 8 else old.extractLsb' (8 * (3 - p)) 8 := by
  apply BitVec.eq_of_getLsbD_eq
  intro i hi
  rw [BitVec.getLsbD_extractLsb', getLsbD_merge, apply_ite (fun b => BitVec.getLsbD b i)]
  simp only [zext32, lo32, BitVec.getLsbD_setWidth, BitVec.getLsbD_ushiftRight,
      getLsbD_ones32,
    BitVec.getLsbD_extractLsb', hi, decide_true, Bool.true_and]
  by_cases h : k ≤ p
  · have e : 8 * k + (8 * (3 - p) + i) = 8 * (3 - (p - k)) + i := by omega
    simp only [e, h, if_true, show 8 * (3 - p) + i < 64 by omega, show 8 * (3 - (p - k)) + i < 32 by omega,
      decide_true, Bool.true_and]
  · simp only [h, if_false, show ¬ 8 * k + (8 * (3 - p) + i) < 32 by omega, decide_false, Bool.and_false, Bool.false_eq_true]

theorem sdl_bytes {k p : Nat} (hk : k < 8) (hp : p < 8) (old v : Dword) :
    ((old &&& ~~~(0xFFFFFFFFFFFFFFFF#64 >>> (8 * k))) |||
      ((v >>> (8 * k)) &&& (0xFFFFFFFFFFFFFFFF#64 >>> (8 * k)))).extractLsb' (8 * (7 - p)) 8 =
    if k ≤ p then v.extractLsb' (8 * (7 - (p - k))) 8 else old.extractLsb' (8 * (7 - p)) 8 := by
  apply BitVec.eq_of_getLsbD_eq
  intro i hi
  rw [BitVec.getLsbD_extractLsb', getLsbD_merge, apply_ite (fun b => BitVec.getLsbD b i)]
  simp only [BitVec.getLsbD_ushiftRight, getLsbD_ones64, BitVec.getLsbD_extractLsb', hi, decide_true, Bool.true_and]
  by_cases h : k ≤ p
  · have e : 8 * k + (8 * (7 - p) + i) = 8 * (7 - (p - k)) + i := by omega
    simp only [e, h, if_true, show 8 * (7 - (p - k)) + i < 64 by omega, decide_true]
  · simp only [h, if_false, show ¬ 8 * k + (8 * (7 - p) + i) < 64 by omega, decide_false, Bool.false_eq_true]

theorem swr_bytes {k p : Nat} (hk : k < 4) (hp : p < 4) (old v : Dword) :
    ((old &&& ~~~(zext32 (0xFFFFFFFF#32 <<< (8 * (3 - k))))) |||
      (zext32 (lo32 v <<< (8 * (3 - k))) &&& zext32 (0xFFFFFFFF#32 <<< (8 * (3 - k))))).extractLsb' (8 * (3 - p)) 8 =
    if p ≤ k then v.extractLsb' (8 * (k - p)) 8 else old.extractLsb' (8 * (3 - p)) 8 := by
  apply BitVec.eq_of_getLsbD_eq
  intro i hi
  rw [BitVec.getLsbD_extractLsb', getLsbD_merge, apply_ite (fun b => BitVec.getLsbD b i)]
  simp only [zext32, lo32, BitVec.getLsbD_setWidth, BitVec.getLsbD_shiftLeft,
      getLsbD_ones32,
    BitVec.getLsbD_extractLsb', hi, decide_true, Bool.true_and]
  have b1 : 8 * (3 - p) + i < 64 := by omega
  have b2 : 8 * (3 - p) + i < 32 := by omega
  by_cases h : p ≤ k
  · have e : 8 * (3 - p) + i - 8 * (3 - k) = 8 * (k - p) + i := by omega
    simp only [e, h, if_true, b1, b2, show ¬ 8 * (3 - p) + i < 8 * (3 - k) by omega,
      show 8 * (k - p) + i < 32 by omega, decide_true, decide_false, Bool.true_and, Bool.not_false]
  · simp only [h, if_false, b1, b2, show 8 * (3 - p) + i < 8 * (3 - k) by omega, decide_true, Bool.not_true,
      Bool.and_false, Bool.false_and, Bool.false_eq_true]

theorem sdr_bytes {k p : Nat} (hk : k < 8) (hp : p < 8) (old v : Dword) :
    ((old &&& ~~~(0xFFFFFFFFFFFFFFFF#64 <<< (8 * (7 - k)))) |||
      ((v <<< (8 * (7 - k))) &&& (0xFFFFFFFFFFFFFFFF#64 <<< (8 * (7 - k))))).extractLsb' (8 * (7 - p)) 8 =
    if p ≤ k then v.extractLsb' (8 * (k - p)) 8 else old.extractLsb' (8 * (7 - p)) 8 := by
  apply BitVec.eq_of_getLsbD_eq
  intro i hi
  rw [BitVec.getLsbD_extractLsb', getLsbD_merge, apply_ite (fun b => BitVec.getLsbD b i)]
  simp only [BitVec.getLsbD_shiftLeft, getLsbD_ones64, BitVec.getLsbD_extractLsb', hi, decide_true, Bool.true_and]
  have b1 : 8 * (7 - p) + i < 64 := by omega
  by_cases h : p ≤ k
  · have e : 8 * (7 - p) + i - 8 * (7 - k) = 8 * (k - p) + i := by omega
    simp only [e, h, if_true, b1, show ¬ 8 * (7 - p) + i < 8 * (7 - k) by omega,
      show 8 * (k - p) + i < 64 by omega, decide_true, decide_false, Bool.true_and, Bool.not_false]
  · simp only [h, if_false, b1, show 8 * (7 - p) + i < 8 * (7 - k) by omega, decide_true, Bool.not_true,
      Bool.and_false, Bool.false_and, Bool.false_eq_true]

/-! ## Values as numbers -/

/-- A big-endian value is the number of its bytes. -/
theorem Memory.readBE_bigEndian (m : Memory) (a : Nat) {n : Nat} (hn : n ≤ 8) :
    (m.readBE a n).toNat = bigEndian ((List.range n).map fun i => m.read (a + i)) := by
  have gen : ∀ (l1 l2 : List Byte), bigEndian (l1 ++ l2) = bigEndian l1 * 256 ^ l2.length + bigEndian l2 := by
    intro l1 l2
    induction l1 with
    | nil => simp [bigEndian]
    | cons b l ih => simp [bigEndian, ih]; ring
  induction n with
  | zero => rfl
  | succ n ih =>
    have := ih (by omega)
    rw [List.range_succ, List.map_append, gen, ← this, Memory.readBE]
    simp only [List.map_cons, List.map_nil, List.length_cons, List.length_nil, bigEndian]
    have h := Memory.readBE_lt m a (n := n) (by omega)
    have h2 : 2 ^ (8 * n) ≤ 2 ^ 56 := Nat.pow_le_pow_right (by decide) (by omega)
    have hb := (m.read (a + n)).isLt
    rw [BitVec.toNat_or, BitVec.toNat_shiftLeft, BitVec.toNat_setWidth]
    generalize (m.readBE a n).toNat = x at *
    generalize (m.read (a + n)).toNat = y at *
    have e1 : x <<< 8 % 2 ^ 64 = x * 256 := by rw [Nat.shiftLeft_eq]; omega
    have e2 : y % 2^64 = y := by omega
    rw [e1, e2]
    have e3 : x * 256 = x <<< 8 := by rw [Nat.shiftLeft_eq]
    rw [e3, ← Nat.shiftLeft_add_eq_or_of_lt hb]
    rw [Nat.shiftLeft_eq]
    simp

/-! ## Cartridge reads (R124) and the copy of a PI DMA (R466) -/

theorem cartRead_byte (o n : Nat) (s : State) (hn : n ≤ 8) : ∀ i b, i < n →
    s.inputs.cart[o + i]? = some b → (cartRead o n s).1.extractLsb' (8 * (n - 1 - i)) 8 = b := by
  induction n with
  | zero => intro i b hi; omega
  | succ n ih =>
    intro i b hi hb
    have hin : (cartRead o n s).2.inputs = s.inputs := by rw [cartRead_frame]
    have e : (cartRead o (n + 1) s).1 = ((cartRead o n s).1 <<< 8) |||
      ((cartByte (o + n) (cartRead o n s).2).1).setWidth 64 := rfl
    rw [e]
    by_cases h : i = n
    · subst h
      rw [cartByte_listed (by rw [hin]; exact hb)]
      ext j hj; simp [show j < 8 by omega, show j < 64 by omega]
    · have := ih (by omega) i b (by omega) hb
      rw [← this]
      ext j hj
      simp only [BitVec.getElem_extractLsb', BitVec.getLsbD_or, BitVec.getLsbD_shiftLeft, BitVec.getLsbD_setWidth]
      rw [BitVec.getLsbD_of_ge (cartByte _ _).1 _ (by omega)]
      simp [show ¬(8 * (n - i) + j < 8) by omega, show 8 * (n - i) + j - 8 = 8 * (n - 1 - i) + j by omega,
        show 8 * (n - i) + j < 64 by omega]
theorem cartRead_lt (o n : Nat) (s : State) (hn : n ≤ 8) : (cartRead o n s).1.toNat < 256 ^ n := by
  induction n with
  | zero => simp [cartRead]
  | succ n ih =>
    have h := ih (by omega)
    have e : (cartRead o (n + 1) s).1 = ((cartRead o n s).1 <<< 8) |||
      ((cartByte (o + n) (cartRead o n s).2).1).setWidth 64 := rfl
    have hb := ((cartByte (o + n) (cartRead o n s).2).1).isLt
    rw [e, BitVec.toNat_or, BitVec.toNat_shiftLeft, BitVec.toNat_setWidth]
    have e2 : 256 ^ (n+1) = 2 ^ (8 * (n + 1)) := by rw [Nat.pow_mul]
    have e3 : 256 ^ n = 2 ^ (8 * n) := by rw [Nat.pow_mul]
    rw [e2]; rw [e3] at h
    have e : 2 ^ (8 * (n + 1)) = 2 ^ (8 * n) * 256 := by rw [show 8 * (n + 1) = 8 * n + 8 by omega, Nat.pow_add]
    refine Nat.or_lt_two_pow ?_ ?_
    · refine Nat.lt_of_le_of_lt (Nat.mod_le _ _) ?_
      rw [Nat.shiftLeft_eq, e]
      omega
    · refine Nat.lt_of_le_of_lt (Nat.mod_le _ _) ?_
      have : 1 ≤ 2 ^ (8 * n) := Nat.one_le_two_pow
      omega
theorem cartRead_in (o n : Nat) (s : State) (h : o + n ≤ s.inputs.cart.length) : (cartRead o n s).2 = s := by
  induction n with
  | zero => rfl
  | succ n ih =>
    have e : (cartRead o (n + 1) s).2 = (cartByte (o + n) (cartRead o n s).2).2 := rfl
    rw [e, ih (by omega)]
    obtain ⟨b, hb⟩ : ∃ b, s.inputs.cart[o + n]? = some b := ⟨s.inputs.cart[o+n], by simp⟩
    rw [cartByte_listed hb]

theorem piCopy_mem (n d o : Nat) (s : State) (h : s.mem.wf = true) :
    (piCopy n d o s).mem.wf = true ∧
    (∀ i b, i < n → s.inputs.cart[o + i]? = some b → (piCopy n d o s).mem.read (d + i) = b) ∧
    (∀ a, a < d ∨ d + n ≤ a → (piCopy n d o s).mem.read a = s.mem.read a) := by
  induction n generalizing d o s with
  | zero => exact ⟨h, fun i b hi => by omega, fun a _ => rfl⟩
  | succ n ih =>
    have e : piCopy (n + 1) d o s =
        piCopy n (d + 1) (o + 1) { (cartByte o s).2 with mem := (cartByte o s).2.mem.write d (cartByte o s).1 } := rfl
    have hm : (cartByte o s).2.mem = s.mem := by rw [cartByte_frame]
    have hi : (cartByte o s).2.inputs = s.inputs := by rw [cartByte_frame]
    obtain ⟨h1, h2, h3⟩ := ih (d + 1) (o + 1)
      { (cartByte o s).2 with mem := (cartByte o s).2.mem.write d (cartByte o s).1 } (by simp only [hm]; exact Memory.wf_write h _ _)
    rw [e]
    refine ⟨h1, ?_, ?_⟩
    · intro i b hi' hb
      by_cases hz : i = 0
      · subst hz
        rw [h3 _ (by omega)]; simp only [hm]
        rw [Memory.read_write h, Nat.add_zero, if_pos rfl, cartByte_listed (by simpa using hb)]
      · have := h2 (i - 1) b (by omega) (by simp only [hi]; rw [show o + 1 + (i - 1) = o + i by omega]; exact hb)
        rwa [show d + 1 + (i - 1) = d + i by omega] at this
    · intro a ha
      rw [h3 _ (by omega)]; simp only [hm]
      rw [Memory.read_write h, if_neg (by omega)]

/-! ## Register windows by address (R118, R473) -/

theorem busRead_register {s : State} {pa : Word} {win : Window} {base off : Nat} (ho : pa.toNat = base + off)
    (h : windowOf s.inputs.rdram (base + off) = some (win, base)) (hb : isByteWindow win = false) (hc : win ≠ .cart) :
    busRead pa .word s = (deviceRead win base off s).bind fun v t => .ok (zext32 v) t := by
  unfold busRead; rw [ho, h]
  simp only [hb, Bool.false_eq_true, if_false]
  rw [if_neg hc, Nat.add_sub_cancel_left]; rfl

theorem busWrite_register {s : State} {pa : Word} {win : Window} {base off : Nat} (v : Dword) (ho : pa.toNat = base + off)
    (h : windowOf s.inputs.rdram (base + off) = some (win, base)) (hb : isByteWindow win = false) (hc : win ≠ .cart) :
    busWrite pa .word v s = deviceWrite win base off (lo32 v) s := by
  unfold busWrite; rw [ho, h]
  simp only [hb, Bool.false_eq_true, if_false]
  rw [if_neg hc, Nat.add_sub_cancel_left]; rfl

theorem windowOf_mi (r : RdramSize) {o : Nat} (h : o < 0x10) : windowOf r (0x04300000 + o) = some (.mi, 0x04300000) := by
  cases r <;> interval_cases o <;> decide

theorem windowOf_spStatus (r : RdramSize) : windowOf r (0x04040000 + 0x10) = some (.spRegs, 0x04040000) := by
  cases r <;> decide

theorem windowOf_vi (r : RdramSize) {o : Nat} (h : o < 0x38) : windowOf r (0x04400000 + o) = some (.vi, 0x04400000) := by
  cases r <;> interval_cases o <;> decide

theorem windowOf_pi (r : RdramSize) {o : Nat} (h : o < 0x34) : windowOf r (0x04600000 + o) = some (.pi, 0x04600000) := by
  cases r <;> interval_cases o <;> decide

theorem windowOf_spRegs (r : RdramSize) {o : Nat} (h : o < 0x20) : windowOf r (0x04040000 + o) = some (.spRegs, 0x04040000) := by
  cases r <;> interval_cases o <;> decide

theorem windowOf_spPcRegs (r : RdramSize) {o : Nat} (h : o < 8) : windowOf r (0x04080000 + o) = some (.spPcRegs, 0x04080000) := by
  cases r <;> interval_cases o <;> decide

theorem windowOf_ai (r : RdramSize) {o : Nat} (h : o < 0x18) : windowOf r (0x04500000 + o) = some (.ai, 0x04500000) := by
  cases r <;> interval_cases o <;> decide

theorem windowOf_ri (r : RdramSize) {o : Nat} (h : o < 0x20) : windowOf r (0x04700000 + o) = some (.ri, 0x04700000) := by
  cases r <;> interval_cases o <;> decide

theorem windowOf_si (r : RdramSize) {o : Nat} (h : o < 0x1C) : windowOf r (0x04800000 + o) = some (.si, 0x04800000) := by
  cases r <;> interval_cases o <;> decide

end Sys2Proof.Machine
end

