-- ==== Sys2Proof/Laws/Boot.lean ====
section
/-! SUPPORT. The parts of the HLE boot: the boot code copy (R481) and the boot register table (R482). -/

namespace Sys2Proof.Machine

theorem copyBootCode_wf (cart : List Byte) (n : Nat) {m : Memory} (h : m.wf = true) : (copyBootCode cart n m).wf = true := by
  induction n with
  | zero => exact h
  | succ n ih =>
    rw [copyBootCode]; split
    · exact Memory.wf_write ih _ _
    · exact ih

theorem copyBootCode_read (cart : List Byte) (n : Nat) {m : Memory} (h : m.wf = true) {i : Nat} {b : Byte}
    (hi : i < n) (hc : cart[i]? = some b) : (copyBootCode cart n m).read (0x04000000 + i) = b := by
  induction n with
  | zero => omega
  | succ n ih =>
    rw [copyBootCode]
    by_cases hn : i = n
    · subst hn
      rw [hc]
      simp only []
      rw [Memory.read_write (copyBootCode_wf _ _ h), if_pos rfl]
    · split
      · rw [Memory.read_write (copyBootCode_wf _ _ h), if_neg (by omega)]; exact ih (by omega)
      · exact ih (by omega)

theorem setBootGprs_frame (l : List (Reg × Dword)) (s : State) :
    setBootGprs l s = { s with gprs := (setBootGprs l s).gprs } := by
  induction l generalizing s with
  | nil => rfl
  | cons x l ih =>
    obtain ⟨r, v⟩ := x
    rw [setBootGprs, ih]
    unfold State.setGpr; split <;> rfl

theorem setBootGprs_gpr (l : List (Reg × Dword)) (s : State) (r : Reg) (h : ∀ p ∈ l, p.1 ≠ r) :
    (setBootGprs l s).gpr r = s.gpr r := by
  induction l generalizing s with
  | nil => rfl
  | cons x l ih =>
    obtain ⟨q, v⟩ := x
    rw [setBootGprs, ih _ fun p hp => h p (List.mem_cons_of_mem _ hp)]
    rw [gpr_setGpr]
    have := h (q, v) List.mem_cons_self
    by_cases hx : r = q
    · exact absurd hx.symm this
    · rw [if_neg hx]; split
      · next h0 => rw [h0]; rfl
      · rfl

theorem setBootGprs_append (l m : List (Reg × Dword)) (s : State) :
    setBootGprs (l ++ m) s = setBootGprs m (setBootGprs l s) := by
  induction l generalizing s with
  | nil => rfl
  | cons x l ih => obtain ⟨q, v⟩ := x; simp only [List.cons_append, setBootGprs]; exact ih _

/-- The launch of the model's named values boots to `State.reset`. -/
theorem hleBoot_reset : hleBoot Launch.reset = State.reset := by decide +kernel

end Sys2Proof.Machine
end

