-- ==== Sys2Proof/Laws/Decode.lean ====
section
/-! SUPPORT. The fields of an encoded word: each layout gives back the fields it was made of (R161, R162). -/

namespace Sys2Proof


@[simp] theorem fieldOpcode_layoutR (op : BitVec 6) (rs rt rd sa : BitVec 5) (funct : BitVec 6) : fieldOpcode (layoutR op rs rt rd sa funct) = op := by
  ext j hj
  simp [fieldOpcode, layoutR]
  grind

@[simp] theorem fieldRs_layoutR (op : BitVec 6) (rs rt rd sa : BitVec 5) (funct : BitVec 6) : fieldRs (layoutR op rs rt rd sa funct) = rs := by
  ext j hj
  simp [fieldRs, layoutR]
  grind

@[simp] theorem fieldRt_layoutR (op : BitVec 6) (rs rt rd sa : BitVec 5) (funct : BitVec 6) : fieldRt (layoutR op rs rt rd sa funct) = rt := by
  ext j hj
  simp [fieldRt, layoutR]
  grind

@[simp] theorem fieldRd_layoutR (op : BitVec 6) (rs rt rd sa : BitVec 5) (funct : BitVec 6) : fieldRd (layoutR op rs rt rd sa funct) = rd := by
  ext j hj
  simp [fieldRd, layoutR]
  grind

@[simp] theorem fieldSa_layoutR (op : BitVec 6) (rs rt rd sa : BitVec 5) (funct : BitVec 6) : fieldSa (layoutR op rs rt rd sa funct) = sa := by
  ext j hj
  simp [fieldSa, layoutR]
  grind

@[simp] theorem fieldFunct_layoutR (op : BitVec 6) (rs rt rd sa : BitVec 5) (funct : BitVec 6) : fieldFunct (layoutR op rs rt rd sa funct) = funct := by
  ext j hj
  simp [fieldFunct, layoutR]
  grind

@[simp] theorem fieldOpcode_layoutI (op : BitVec 6) (rs rt : BitVec 5) (imm : Imm) : fieldOpcode (layoutI op rs rt imm) = op := by
  ext j hj
  simp [fieldOpcode, layoutI]
  grind

@[simp] theorem fieldRs_layoutI (op : BitVec 6) (rs rt : BitVec 5) (imm : Imm) : fieldRs (layoutI op rs rt imm) = rs := by
  ext j hj
  simp [fieldRs, layoutI]
  grind

@[simp] theorem fieldRt_layoutI (op : BitVec 6) (rs rt : BitVec 5) (imm : Imm) : fieldRt (layoutI op rs rt imm) = rt := by
  ext j hj
  simp [fieldRt, layoutI]
  grind

@[simp] theorem fieldImm_layoutI (op : BitVec 6) (rs rt : BitVec 5) (imm : Imm) : fieldImm (layoutI op rs rt imm) = imm := by
  ext j hj
  simp [fieldImm, layoutI]
  grind

@[simp] theorem fieldOpcode_layoutJ (op : BitVec 6) (index : BitVec 26) : fieldOpcode (layoutJ op index) = op := by
  ext j hj
  simp [fieldOpcode, layoutJ]
  grind

@[simp] theorem fieldIndex_layoutJ (op : BitVec 6) (index : BitVec 26) : fieldIndex (layoutJ op index) = index := by
  ext j hj
  simp [fieldIndex, layoutJ]
  grind

@[simp] theorem fieldOpcode_layoutCode (code : BitVec 20) (funct : BitVec 6) : fieldOpcode (layoutCode code funct) = 0#6 := by
  ext j hj
  simp [fieldOpcode, layoutCode]
  grind

@[simp] theorem fieldCode_layoutCode (code : BitVec 20) (funct : BitVec 6) : fieldCode (layoutCode code funct) = code := by
  ext j hj
  simp [fieldCode, layoutCode]
  grind

@[simp] theorem fieldFunct_layoutCode (code : BitVec 20) (funct : BitVec 6) : fieldFunct (layoutCode code funct) = funct := by
  ext j hj
  simp [fieldFunct, layoutCode]
  grind

@[simp] theorem fieldOpcode_layoutTcode (rs rt : BitVec 5) (code : BitVec 10) (funct : BitVec 6) : fieldOpcode (layoutTcode rs rt code funct) = 0#6 := by
  ext j hj
  simp [fieldOpcode, layoutTcode]
  grind

@[simp] theorem fieldRs_layoutTcode (rs rt : BitVec 5) (code : BitVec 10) (funct : BitVec 6) : fieldRs (layoutTcode rs rt code funct) = rs := by
  ext j hj
  simp [fieldRs, layoutTcode]
  grind

@[simp] theorem fieldRt_layoutTcode (rs rt : BitVec 5) (code : BitVec 10) (funct : BitVec 6) : fieldRt (layoutTcode rs rt code funct) = rt := by
  ext j hj
  simp [fieldRt, layoutTcode]
  grind

@[simp] theorem fieldTcode_layoutTcode (rs rt : BitVec 5) (code : BitVec 10) (funct : BitVec 6) : fieldTcode (layoutTcode rs rt code funct) = code := by
  ext j hj
  simp [fieldTcode, layoutTcode]
  grind

@[simp] theorem fieldFunct_layoutTcode (rs rt : BitVec 5) (code : BitVec 10) (funct : BitVec 6) : fieldFunct (layoutTcode rs rt code funct) = funct := by
  ext j hj
  simp [fieldFunct, layoutTcode]
  grind

@[simp] theorem fieldCo_layoutR (op : BitVec 6) (rs rt rd sa : BitVec 5) (funct : BitVec 6) :
    fieldCo (layoutR op rs rt rd sa funct) = rs.getLsbD 4 := by
  simp [fieldCo, layoutR]
  grind

/-! ## A word is its fields -/

theorem layoutR_fields (w : Word) :
    layoutR (fieldOpcode w) (fieldRs w) (fieldRt w) (fieldRd w) (fieldSa w) (fieldFunct w) = w := by
  ext j hj
  simp [layoutR, fieldOpcode, fieldRs, fieldRt, fieldRd, fieldSa, fieldFunct]
  grind

theorem layoutI_fields (w : Word) : layoutI (fieldOpcode w) (fieldRs w) (fieldRt w) (fieldImm w) = w := by
  ext j hj
  simp [layoutI, fieldOpcode, fieldRs, fieldRt, fieldImm]
  grind

theorem layoutJ_fields (w : Word) : layoutJ (fieldOpcode w) (fieldIndex w) = w := by
  ext j hj
  simp [layoutJ, fieldOpcode, fieldIndex]
  grind

theorem layoutR_and (op op' : BitVec 6) (rs rt rd sa rs' rt' rd' sa' : BitVec 5) (f f' : BitVec 6) :
    layoutR op rs rt rd sa f &&& layoutR op' rs' rt' rd' sa' f' =
      layoutR (op &&& op') (rs &&& rs') (rt &&& rt') (rd &&& rd') (sa &&& sa') (f &&& f') := by
  ext j hj
  simp [layoutR]
  grind

theorem layoutI_and (op op' : BitVec 6) (rs rt rs' rt' : BitVec 5) (i i' : Imm) :
    layoutI op rs rt i &&& layoutI op' rs' rt' i' = layoutI (op &&& op') (rs &&& rs') (rt &&& rt') (i &&& i') := by
  ext j hj
  simp [layoutI]
  grind

/-! ## What each selector decodes to (R169 to R173) -/

variable {w : Word}

theorem decode_special (h : fieldOpcode w = 0x00#6) : decode w = decodeSpecial w := by
  unfold decode; rw [h]; rfl

theorem decode_regimm (h : fieldOpcode w = 0x01#6) : decode w = decodeRegimm w := by
  unfold decode; rw [h]; rfl

theorem decode_cop0 (h : fieldOpcode w = 0x10#6) :
    decode w = if fieldCo w then decodeCop0Function w else decodeCop0Move w := by
  unfold decode; rw [h]; rfl

theorem decode_cop1 (h : fieldOpcode w = 0x11#6) : decode w = decodeCop1 w := by
  unfold decode; rw [h]; rfl

theorem decode_bc1 (h : fieldOpcode w = 0x11#6) (h1 : fieldRs w = 0x08#5) : decode w = .ok (decodeBc1 w) := by
  rw [decode_cop1 h]; unfold decodeCop1; rw [h1]; rfl

theorem decode_add (h : fieldOpcode w = 0x00#6) (h1 : fieldFunct w = 0x20#6) :
    decode w = .ok (.add (fieldRs w) (fieldRt w) (fieldRd w)) := by
  rw [decode_special h]; unfold decodeSpecial; rw [h1]; rfl

theorem decode_addu (h : fieldOpcode w = 0x00#6) (h1 : fieldFunct w = 0x21#6) :
    decode w = .ok (.addu (fieldRs w) (fieldRt w) (fieldRd w)) := by
  rw [decode_special h]; unfold decodeSpecial; rw [h1]; rfl

theorem decode_sub (h : fieldOpcode w = 0x00#6) (h1 : fieldFunct w = 0x22#6) :
    decode w = .ok (.sub (fieldRs w) (fieldRt w) (fieldRd w)) := by
  rw [decode_special h]; unfold decodeSpecial; rw [h1]; rfl

theorem decode_subu (h : fieldOpcode w = 0x00#6) (h1 : fieldFunct w = 0x23#6) :
    decode w = .ok (.subu (fieldRs w) (fieldRt w) (fieldRd w)) := by
  rw [decode_special h]; unfold decodeSpecial; rw [h1]; rfl

theorem decode_addi (h : fieldOpcode w = 0x08#6) :
    decode w = .ok (.addi (fieldRs w) (fieldRt w) (fieldImm w)) := by
  unfold decode; rw [h]; rfl

theorem decode_addiu (h : fieldOpcode w = 0x09#6) :
    decode w = .ok (.addiu (fieldRs w) (fieldRt w) (fieldImm w)) := by
  unfold decode; rw [h]; rfl

theorem decode_dadd (h : fieldOpcode w = 0x00#6) (h1 : fieldFunct w = 0x2C#6) :
    decode w = .ok (.dadd (fieldRs w) (fieldRt w) (fieldRd w)) := by
  rw [decode_special h]; unfold decodeSpecial; rw [h1]; rfl

theorem decode_daddu (h : fieldOpcode w = 0x00#6) (h1 : fieldFunct w = 0x2D#6) :
    decode w = .ok (.daddu (fieldRs w) (fieldRt w) (fieldRd w)) := by
  rw [decode_special h]; unfold decodeSpecial; rw [h1]; rfl

theorem decode_dsub (h : fieldOpcode w = 0x00#6) (h1 : fieldFunct w = 0x2E#6) :
    decode w = .ok (.dsub (fieldRs w) (fieldRt w) (fieldRd w)) := by
  rw [decode_special h]; unfold decodeSpecial; rw [h1]; rfl

theorem decode_dsubu (h : fieldOpcode w = 0x00#6) (h1 : fieldFunct w = 0x2F#6) :
    decode w = .ok (.dsubu (fieldRs w) (fieldRt w) (fieldRd w)) := by
  rw [decode_special h]; unfold decodeSpecial; rw [h1]; rfl

theorem decode_daddi (h : fieldOpcode w = 0x18#6) :
    decode w = .ok (.daddi (fieldRs w) (fieldRt w) (fieldImm w)) := by
  unfold decode; rw [h]; rfl

theorem decode_daddiu (h : fieldOpcode w = 0x19#6) :
    decode w = .ok (.daddiu (fieldRs w) (fieldRt w) (fieldImm w)) := by
  unfold decode; rw [h]; rfl

theorem decode_slt (h : fieldOpcode w = 0x00#6) (h1 : fieldFunct w = 0x2A#6) :
    decode w = .ok (.slt (fieldRs w) (fieldRt w) (fieldRd w)) := by
  rw [decode_special h]; unfold decodeSpecial; rw [h1]; rfl

theorem decode_sltu (h : fieldOpcode w = 0x00#6) (h1 : fieldFunct w = 0x2B#6) :
    decode w = .ok (.sltu (fieldRs w) (fieldRt w) (fieldRd w)) := by
  rw [decode_special h]; unfold decodeSpecial; rw [h1]; rfl

theorem decode_slti (h : fieldOpcode w = 0x0A#6) :
    decode w = .ok (.slti (fieldRs w) (fieldRt w) (fieldImm w)) := by
  unfold decode; rw [h]; rfl

theorem decode_sltiu (h : fieldOpcode w = 0x0B#6) :
    decode w = .ok (.sltiu (fieldRs w) (fieldRt w) (fieldImm w)) := by
  unfold decode; rw [h]; rfl

theorem decode_and (h : fieldOpcode w = 0x00#6) (h1 : fieldFunct w = 0x24#6) :
    decode w = .ok (.and (fieldRs w) (fieldRt w) (fieldRd w)) := by
  rw [decode_special h]; unfold decodeSpecial; rw [h1]; rfl

theorem decode_or (h : fieldOpcode w = 0x00#6) (h1 : fieldFunct w = 0x25#6) :
    decode w = .ok (.or (fieldRs w) (fieldRt w) (fieldRd w)) := by
  rw [decode_special h]; unfold decodeSpecial; rw [h1]; rfl

theorem decode_xor (h : fieldOpcode w = 0x00#6) (h1 : fieldFunct w = 0x26#6) :
    decode w = .ok (.xor (fieldRs w) (fieldRt w) (fieldRd w)) := by
  rw [decode_special h]; unfold decodeSpecial; rw [h1]; rfl

theorem decode_nor (h : fieldOpcode w = 0x00#6) (h1 : fieldFunct w = 0x27#6) :
    decode w = .ok (.nor (fieldRs w) (fieldRt w) (fieldRd w)) := by
  rw [decode_special h]; unfold decodeSpecial; rw [h1]; rfl

theorem decode_andi (h : fieldOpcode w = 0x0C#6) :
    decode w = .ok (.andi (fieldRs w) (fieldRt w) (fieldImm w)) := by
  unfold decode; rw [h]; rfl

theorem decode_ori (h : fieldOpcode w = 0x0D#6) :
    decode w = .ok (.ori (fieldRs w) (fieldRt w) (fieldImm w)) := by
  unfold decode; rw [h]; rfl

theorem decode_xori (h : fieldOpcode w = 0x0E#6) :
    decode w = .ok (.xori (fieldRs w) (fieldRt w) (fieldImm w)) := by
  unfold decode; rw [h]; rfl

theorem decode_lui (h : fieldOpcode w = 0x0F#6) :
    decode w = .ok (.lui (fieldRt w) (fieldImm w)) := by
  unfold decode; rw [h]; rfl

theorem decode_sll (h : fieldOpcode w = 0x00#6) (h1 : fieldFunct w = 0x00#6) :
    decode w = .ok (.sll (fieldRt w) (fieldRd w) (fieldSa w)) := by
  rw [decode_special h]; unfold decodeSpecial; rw [h1]; rfl

theorem decode_srl (h : fieldOpcode w = 0x00#6) (h1 : fieldFunct w = 0x02#6) :
    decode w = .ok (.srl (fieldRt w) (fieldRd w) (fieldSa w)) := by
  rw [decode_special h]; unfold decodeSpecial; rw [h1]; rfl

theorem decode_sra (h : fieldOpcode w = 0x00#6) (h1 : fieldFunct w = 0x03#6) :
    decode w = .ok (.sra (fieldRt w) (fieldRd w) (fieldSa w)) := by
  rw [decode_special h]; unfold decodeSpecial; rw [h1]; rfl

theorem decode_sllv (h : fieldOpcode w = 0x00#6) (h1 : fieldFunct w = 0x04#6) :
    decode w = .ok (.sllv (fieldRs w) (fieldRt w) (fieldRd w)) := by
  rw [decode_special h]; unfold decodeSpecial; rw [h1]; rfl

theorem decode_srlv (h : fieldOpcode w = 0x00#6) (h1 : fieldFunct w = 0x06#6) :
    decode w = .ok (.srlv (fieldRs w) (fieldRt w) (fieldRd w)) := by
  rw [decode_special h]; unfold decodeSpecial; rw [h1]; rfl

theorem decode_srav (h : fieldOpcode w = 0x00#6) (h1 : fieldFunct w = 0x07#6) :
    decode w = .ok (.srav (fieldRs w) (fieldRt w) (fieldRd w)) := by
  rw [decode_special h]; unfold decodeSpecial; rw [h1]; rfl

theorem decode_dsll (h : fieldOpcode w = 0x00#6) (h1 : fieldFunct w = 0x38#6) :
    decode w = .ok (.dsll (fieldRt w) (fieldRd w) (fieldSa w)) := by
  rw [decode_special h]; unfold decodeSpecial; rw [h1]; rfl

theorem decode_dsrl (h : fieldOpcode w = 0x00#6) (h1 : fieldFunct w = 0x3A#6) :
    decode w = .ok (.dsrl (fieldRt w) (fieldRd w) (fieldSa w)) := by
  rw [decode_special h]; unfold decodeSpecial; rw [h1]; rfl

theorem decode_dsra (h : fieldOpcode w = 0x00#6) (h1 : fieldFunct w = 0x3B#6) :
    decode w = .ok (.dsra (fieldRt w) (fieldRd w) (fieldSa w)) := by
  rw [decode_special h]; unfold decodeSpecial; rw [h1]; rfl

theorem decode_dsll32 (h : fieldOpcode w = 0x00#6) (h1 : fieldFunct w = 0x3C#6) :
    decode w = .ok (.dsll32 (fieldRt w) (fieldRd w) (fieldSa w)) := by
  rw [decode_special h]; unfold decodeSpecial; rw [h1]; rfl

theorem decode_dsrl32 (h : fieldOpcode w = 0x00#6) (h1 : fieldFunct w = 0x3E#6) :
    decode w = .ok (.dsrl32 (fieldRt w) (fieldRd w) (fieldSa w)) := by
  rw [decode_special h]; unfold decodeSpecial; rw [h1]; rfl

theorem decode_dsra32 (h : fieldOpcode w = 0x00#6) (h1 : fieldFunct w = 0x3F#6) :
    decode w = .ok (.dsra32 (fieldRt w) (fieldRd w) (fieldSa w)) := by
  rw [decode_special h]; unfold decodeSpecial; rw [h1]; rfl

theorem decode_dsllv (h : fieldOpcode w = 0x00#6) (h1 : fieldFunct w = 0x14#6) :
    decode w = .ok (.dsllv (fieldRs w) (fieldRt w) (fieldRd w)) := by
  rw [decode_special h]; unfold decodeSpecial; rw [h1]; rfl

theorem decode_dsrlv (h : fieldOpcode w = 0x00#6) (h1 : fieldFunct w = 0x16#6) :
    decode w = .ok (.dsrlv (fieldRs w) (fieldRt w) (fieldRd w)) := by
  rw [decode_special h]; unfold decodeSpecial; rw [h1]; rfl

theorem decode_dsrav (h : fieldOpcode w = 0x00#6) (h1 : fieldFunct w = 0x17#6) :
    decode w = .ok (.dsrav (fieldRs w) (fieldRt w) (fieldRd w)) := by
  rw [decode_special h]; unfold decodeSpecial; rw [h1]; rfl

theorem decode_mfhi (h : fieldOpcode w = 0x00#6) (h1 : fieldFunct w = 0x10#6) :
    decode w = .ok (.mfhi (fieldRd w)) := by
  rw [decode_special h]; unfold decodeSpecial; rw [h1]; rfl

theorem decode_mthi (h : fieldOpcode w = 0x00#6) (h1 : fieldFunct w = 0x11#6) :
    decode w = .ok (.mthi (fieldRs w)) := by
  rw [decode_special h]; unfold decodeSpecial; rw [h1]; rfl

theorem decode_mflo (h : fieldOpcode w = 0x00#6) (h1 : fieldFunct w = 0x12#6) :
    decode w = .ok (.mflo (fieldRd w)) := by
  rw [decode_special h]; unfold decodeSpecial; rw [h1]; rfl

theorem decode_mtlo (h : fieldOpcode w = 0x00#6) (h1 : fieldFunct w = 0x13#6) :
    decode w = .ok (.mtlo (fieldRs w)) := by
  rw [decode_special h]; unfold decodeSpecial; rw [h1]; rfl

theorem decode_mult (h : fieldOpcode w = 0x00#6) (h1 : fieldFunct w = 0x18#6) :
    decode w = .ok (.mult (fieldRs w) (fieldRt w)) := by
  rw [decode_special h]; unfold decodeSpecial; rw [h1]; rfl

theorem decode_multu (h : fieldOpcode w = 0x00#6) (h1 : fieldFunct w = 0x19#6) :
    decode w = .ok (.multu (fieldRs w) (fieldRt w)) := by
  rw [decode_special h]; unfold decodeSpecial; rw [h1]; rfl

theorem decode_dmult (h : fieldOpcode w = 0x00#6) (h1 : fieldFunct w = 0x1C#6) :
    decode w = .ok (.dmult (fieldRs w) (fieldRt w)) := by
  rw [decode_special h]; unfold decodeSpecial; rw [h1]; rfl

theorem decode_dmultu (h : fieldOpcode w = 0x00#6) (h1 : fieldFunct w = 0x1D#6) :
    decode w = .ok (.dmultu (fieldRs w) (fieldRt w)) := by
  rw [decode_special h]; unfold decodeSpecial; rw [h1]; rfl

theorem decode_div (h : fieldOpcode w = 0x00#6) (h1 : fieldFunct w = 0x1A#6) :
    decode w = .ok (.div (fieldRs w) (fieldRt w)) := by
  rw [decode_special h]; unfold decodeSpecial; rw [h1]; rfl

theorem decode_divu (h : fieldOpcode w = 0x00#6) (h1 : fieldFunct w = 0x1B#6) :
    decode w = .ok (.divu (fieldRs w) (fieldRt w)) := by
  rw [decode_special h]; unfold decodeSpecial; rw [h1]; rfl

theorem decode_ddiv (h : fieldOpcode w = 0x00#6) (h1 : fieldFunct w = 0x1E#6) :
    decode w = .ok (.ddiv (fieldRs w) (fieldRt w)) := by
  rw [decode_special h]; unfold decodeSpecial; rw [h1]; rfl

theorem decode_ddivu (h : fieldOpcode w = 0x00#6) (h1 : fieldFunct w = 0x1F#6) :
    decode w = .ok (.ddivu (fieldRs w) (fieldRt w)) := by
  rw [decode_special h]; unfold decodeSpecial; rw [h1]; rfl

theorem decode_beq (h : fieldOpcode w = 0x04#6) :
    decode w = .ok (.beq (fieldRs w) (fieldRt w) (fieldImm w)) := by
  unfold decode; rw [h]; rfl

theorem decode_bne (h : fieldOpcode w = 0x05#6) :
    decode w = .ok (.bne (fieldRs w) (fieldRt w) (fieldImm w)) := by
  unfold decode; rw [h]; rfl

theorem decode_blez (h : fieldOpcode w = 0x06#6) :
    decode w = .ok (.blez (fieldRs w) (fieldImm w)) := by
  unfold decode; rw [h]; rfl

theorem decode_bgtz (h : fieldOpcode w = 0x07#6) :
    decode w = .ok (.bgtz (fieldRs w) (fieldImm w)) := by
  unfold decode; rw [h]; rfl

theorem decode_bltz (h : fieldOpcode w = 0x01#6) (h1 : fieldRt w = 0x00#5) :
    decode w = .ok (.bltz (fieldRs w) (fieldImm w)) := by
  rw [decode_regimm h]; unfold decodeRegimm; rw [h1]; rfl

theorem decode_bgez (h : fieldOpcode w = 0x01#6) (h1 : fieldRt w = 0x01#5) :
    decode w = .ok (.bgez (fieldRs w) (fieldImm w)) := by
  rw [decode_regimm h]; unfold decodeRegimm; rw [h1]; rfl

theorem decode_bltzal (h : fieldOpcode w = 0x01#6) (h1 : fieldRt w = 0x10#5) :
    decode w = .ok (.bltzal (fieldRs w) (fieldImm w)) := by
  rw [decode_regimm h]; unfold decodeRegimm; rw [h1]; rfl

theorem decode_bgezal (h : fieldOpcode w = 0x01#6) (h1 : fieldRt w = 0x11#5) :
    decode w = .ok (.bgezal (fieldRs w) (fieldImm w)) := by
  rw [decode_regimm h]; unfold decodeRegimm; rw [h1]; rfl

theorem decode_beql (h : fieldOpcode w = 0x14#6) :
    decode w = .ok (.beql (fieldRs w) (fieldRt w) (fieldImm w)) := by
  unfold decode; rw [h]; rfl

theorem decode_bnel (h : fieldOpcode w = 0x15#6) :
    decode w = .ok (.bnel (fieldRs w) (fieldRt w) (fieldImm w)) := by
  unfold decode; rw [h]; rfl

theorem decode_blezl (h : fieldOpcode w = 0x16#6) :
    decode w = .ok (.blezl (fieldRs w) (fieldImm w)) := by
  unfold decode; rw [h]; rfl

theorem decode_bgtzl (h : fieldOpcode w = 0x17#6) :
    decode w = .ok (.bgtzl (fieldRs w) (fieldImm w)) := by
  unfold decode; rw [h]; rfl

theorem decode_bltzl (h : fieldOpcode w = 0x01#6) (h1 : fieldRt w = 0x02#5) :
    decode w = .ok (.bltzl (fieldRs w) (fieldImm w)) := by
  rw [decode_regimm h]; unfold decodeRegimm; rw [h1]; rfl

theorem decode_bgezl (h : fieldOpcode w = 0x01#6) (h1 : fieldRt w = 0x03#5) :
    decode w = .ok (.bgezl (fieldRs w) (fieldImm w)) := by
  rw [decode_regimm h]; unfold decodeRegimm; rw [h1]; rfl

theorem decode_bltzall (h : fieldOpcode w = 0x01#6) (h1 : fieldRt w = 0x12#5) :
    decode w = .ok (.bltzall (fieldRs w) (fieldImm w)) := by
  rw [decode_regimm h]; unfold decodeRegimm; rw [h1]; rfl

theorem decode_bgezall (h : fieldOpcode w = 0x01#6) (h1 : fieldRt w = 0x13#5) :
    decode w = .ok (.bgezall (fieldRs w) (fieldImm w)) := by
  rw [decode_regimm h]; unfold decodeRegimm; rw [h1]; rfl

theorem decode_j (h : fieldOpcode w = 0x02#6) :
    decode w = .ok (.j (fieldIndex w)) := by
  unfold decode; rw [h]; rfl

theorem decode_jal (h : fieldOpcode w = 0x03#6) :
    decode w = .ok (.jal (fieldIndex w)) := by
  unfold decode; rw [h]; rfl

theorem decode_jr (h : fieldOpcode w = 0x00#6) (h1 : fieldFunct w = 0x08#6) :
    decode w = .ok (.jr (fieldRs w)) := by
  rw [decode_special h]; unfold decodeSpecial; rw [h1]; rfl

theorem decode_jalr (h : fieldOpcode w = 0x00#6) (h1 : fieldFunct w = 0x09#6) :
    decode w = .ok (.jalr (fieldRs w) (fieldRd w)) := by
  rw [decode_special h]; unfold decodeSpecial; rw [h1]; rfl

theorem decode_lb (h : fieldOpcode w = 0x20#6) :
    decode w = .ok (.lb (fieldRs w) (fieldRt w) (fieldImm w)) := by
  unfold decode; rw [h]; rfl

theorem decode_lbu (h : fieldOpcode w = 0x24#6) :
    decode w = .ok (.lbu (fieldRs w) (fieldRt w) (fieldImm w)) := by
  unfold decode; rw [h]; rfl

theorem decode_lh (h : fieldOpcode w = 0x21#6) :
    decode w = .ok (.lh (fieldRs w) (fieldRt w) (fieldImm w)) := by
  unfold decode; rw [h]; rfl

theorem decode_lhu (h : fieldOpcode w = 0x25#6) :
    decode w = .ok (.lhu (fieldRs w) (fieldRt w) (fieldImm w)) := by
  unfold decode; rw [h]; rfl

theorem decode_lw (h : fieldOpcode w = 0x23#6) :
    decode w = .ok (.lw (fieldRs w) (fieldRt w) (fieldImm w)) := by
  unfold decode; rw [h]; rfl

theorem decode_lwu (h : fieldOpcode w = 0x27#6) :
    decode w = .ok (.lwu (fieldRs w) (fieldRt w) (fieldImm w)) := by
  unfold decode; rw [h]; rfl

theorem decode_ld (h : fieldOpcode w = 0x37#6) :
    decode w = .ok (.ld (fieldRs w) (fieldRt w) (fieldImm w)) := by
  unfold decode; rw [h]; rfl

theorem decode_lwl (h : fieldOpcode w = 0x22#6) :
    decode w = .ok (.lwl (fieldRs w) (fieldRt w) (fieldImm w)) := by
  unfold decode; rw [h]; rfl

theorem decode_lwr (h : fieldOpcode w = 0x26#6) :
    decode w = .ok (.lwr (fieldRs w) (fieldRt w) (fieldImm w)) := by
  unfold decode; rw [h]; rfl

theorem decode_ldl (h : fieldOpcode w = 0x1A#6) :
    decode w = .ok (.ldl (fieldRs w) (fieldRt w) (fieldImm w)) := by
  unfold decode; rw [h]; rfl

theorem decode_ldr (h : fieldOpcode w = 0x1B#6) :
    decode w = .ok (.ldr (fieldRs w) (fieldRt w) (fieldImm w)) := by
  unfold decode; rw [h]; rfl

theorem decode_sb (h : fieldOpcode w = 0x28#6) :
    decode w = .ok (.sb (fieldRs w) (fieldRt w) (fieldImm w)) := by
  unfold decode; rw [h]; rfl

theorem decode_sh (h : fieldOpcode w = 0x29#6) :
    decode w = .ok (.sh (fieldRs w) (fieldRt w) (fieldImm w)) := by
  unfold decode; rw [h]; rfl

theorem decode_sw (h : fieldOpcode w = 0x2B#6) :
    decode w = .ok (.sw (fieldRs w) (fieldRt w) (fieldImm w)) := by
  unfold decode; rw [h]; rfl

theorem decode_sd (h : fieldOpcode w = 0x3F#6) :
    decode w = .ok (.sd (fieldRs w) (fieldRt w) (fieldImm w)) := by
  unfold decode; rw [h]; rfl

theorem decode_ll (h : fieldOpcode w = 0x30#6) :
    decode w = .ok (.ll (fieldRs w) (fieldRt w) (fieldImm w)) := by
  unfold decode; rw [h]; rfl

theorem decode_lld (h : fieldOpcode w = 0x34#6) :
    decode w = .ok (.lld (fieldRs w) (fieldRt w) (fieldImm w)) := by
  unfold decode; rw [h]; rfl

theorem decode_sc (h : fieldOpcode w = 0x38#6) :
    decode w = .ok (.sc (fieldRs w) (fieldRt w) (fieldImm w)) := by
  unfold decode; rw [h]; rfl

theorem decode_scd (h : fieldOpcode w = 0x3C#6) :
    decode w = .ok (.scd (fieldRs w) (fieldRt w) (fieldImm w)) := by
  unfold decode; rw [h]; rfl

theorem decode_swl (h : fieldOpcode w = 0x2A#6) :
    decode w = .ok (.swl (fieldRs w) (fieldRt w) (fieldImm w)) := by
  unfold decode; rw [h]; rfl

theorem decode_swr (h : fieldOpcode w = 0x2E#6) :
    decode w = .ok (.swr (fieldRs w) (fieldRt w) (fieldImm w)) := by
  unfold decode; rw [h]; rfl

theorem decode_sdl (h : fieldOpcode w = 0x2C#6) :
    decode w = .ok (.sdl (fieldRs w) (fieldRt w) (fieldImm w)) := by
  unfold decode; rw [h]; rfl

theorem decode_sdr (h : fieldOpcode w = 0x2D#6) :
    decode w = .ok (.sdr (fieldRs w) (fieldRt w) (fieldImm w)) := by
  unfold decode; rw [h]; rfl

theorem decode_syscall (h : fieldOpcode w = 0x00#6) (h1 : fieldFunct w = 0x0C#6) :
    decode w = .ok (.syscall (fieldCode w)) := by
  rw [decode_special h]; unfold decodeSpecial; rw [h1]; rfl

theorem decode_brk (h : fieldOpcode w = 0x00#6) (h1 : fieldFunct w = 0x0D#6) :
    decode w = .ok (.brk (fieldCode w)) := by
  rw [decode_special h]; unfold decodeSpecial; rw [h1]; rfl

theorem decode_tge (h : fieldOpcode w = 0x00#6) (h1 : fieldFunct w = 0x30#6) :
    decode w = .ok (.tge (fieldRs w) (fieldRt w) (fieldTcode w)) := by
  rw [decode_special h]; unfold decodeSpecial; rw [h1]; rfl

theorem decode_tgeu (h : fieldOpcode w = 0x00#6) (h1 : fieldFunct w = 0x31#6) :
    decode w = .ok (.tgeu (fieldRs w) (fieldRt w) (fieldTcode w)) := by
  rw [decode_special h]; unfold decodeSpecial; rw [h1]; rfl

theorem decode_tlt (h : fieldOpcode w = 0x00#6) (h1 : fieldFunct w = 0x32#6) :
    decode w = .ok (.tlt (fieldRs w) (fieldRt w) (fieldTcode w)) := by
  rw [decode_special h]; unfold decodeSpecial; rw [h1]; rfl

theorem decode_tltu (h : fieldOpcode w = 0x00#6) (h1 : fieldFunct w = 0x33#6) :
    decode w = .ok (.tltu (fieldRs w) (fieldRt w) (fieldTcode w)) := by
  rw [decode_special h]; unfold decodeSpecial; rw [h1]; rfl

theorem decode_teq (h : fieldOpcode w = 0x00#6) (h1 : fieldFunct w = 0x34#6) :
    decode w = .ok (.teq (fieldRs w) (fieldRt w) (fieldTcode w)) := by
  rw [decode_special h]; unfold decodeSpecial; rw [h1]; rfl

theorem decode_tne (h : fieldOpcode w = 0x00#6) (h1 : fieldFunct w = 0x36#6) :
    decode w = .ok (.tne (fieldRs w) (fieldRt w) (fieldTcode w)) := by
  rw [decode_special h]; unfold decodeSpecial; rw [h1]; rfl

theorem decode_tgei (h : fieldOpcode w = 0x01#6) (h1 : fieldRt w = 0x08#5) :
    decode w = .ok (.tgei (fieldRs w) (fieldImm w)) := by
  rw [decode_regimm h]; unfold decodeRegimm; rw [h1]; rfl

theorem decode_tgeiu (h : fieldOpcode w = 0x01#6) (h1 : fieldRt w = 0x09#5) :
    decode w = .ok (.tgeiu (fieldRs w) (fieldImm w)) := by
  rw [decode_regimm h]; unfold decodeRegimm; rw [h1]; rfl

theorem decode_tlti (h : fieldOpcode w = 0x01#6) (h1 : fieldRt w = 0x0A#5) :
    decode w = .ok (.tlti (fieldRs w) (fieldImm w)) := by
  rw [decode_regimm h]; unfold decodeRegimm; rw [h1]; rfl

theorem decode_tltiu (h : fieldOpcode w = 0x01#6) (h1 : fieldRt w = 0x0B#5) :
    decode w = .ok (.tltiu (fieldRs w) (fieldImm w)) := by
  rw [decode_regimm h]; unfold decodeRegimm; rw [h1]; rfl

theorem decode_teqi (h : fieldOpcode w = 0x01#6) (h1 : fieldRt w = 0x0C#5) :
    decode w = .ok (.teqi (fieldRs w) (fieldImm w)) := by
  rw [decode_regimm h]; unfold decodeRegimm; rw [h1]; rfl

theorem decode_tnei (h : fieldOpcode w = 0x01#6) (h1 : fieldRt w = 0x0E#5) :
    decode w = .ok (.tnei (fieldRs w) (fieldImm w)) := by
  rw [decode_regimm h]; unfold decodeRegimm; rw [h1]; rfl

theorem decode_sync (h : fieldOpcode w = 0x00#6) (h1 : fieldFunct w = 0x0F#6) :
    decode w = .ok (.sync (fieldSa w)) := by
  rw [decode_special h]; unfold decodeSpecial; rw [h1]; rfl

theorem decode_cache (h : fieldOpcode w = 0x2F#6) :
    decode w = .ok (.cache (fieldRs w) (fieldRt w) (fieldImm w)) := by
  unfold decode; rw [h]; rfl

theorem decode_mfc0 (h : fieldOpcode w = 0x10#6) (h0 : fieldCo w = false) (h1 : fieldRs w = 0x00#5) :
    decode w = .ok (.mfc0 (fieldRt w) (fieldRd w)) := by
  rw [decode_cop0 h, if_neg (by simp [h0])]; unfold decodeCop0Move; rw [h1]; rfl

theorem decode_dmfc0 (h : fieldOpcode w = 0x10#6) (h0 : fieldCo w = false) (h1 : fieldRs w = 0x01#5) :
    decode w = .ok (.dmfc0 (fieldRt w) (fieldRd w)) := by
  rw [decode_cop0 h, if_neg (by simp [h0])]; unfold decodeCop0Move; rw [h1]; rfl

theorem decode_mtc0 (h : fieldOpcode w = 0x10#6) (h0 : fieldCo w = false) (h1 : fieldRs w = 0x04#5) :
    decode w = .ok (.mtc0 (fieldRt w) (fieldRd w)) := by
  rw [decode_cop0 h, if_neg (by simp [h0])]; unfold decodeCop0Move; rw [h1]; rfl

theorem decode_dmtc0 (h : fieldOpcode w = 0x10#6) (h0 : fieldCo w = false) (h1 : fieldRs w = 0x05#5) :
    decode w = .ok (.dmtc0 (fieldRt w) (fieldRd w)) := by
  rw [decode_cop0 h, if_neg (by simp [h0])]; unfold decodeCop0Move; rw [h1]; rfl

theorem decode_tlbwi (h : fieldOpcode w = 0x10#6) (h0 : fieldCo w = true) (h1 : fieldFunct w = 0x02#6) :
    decode w = .ok (.tlbwi) := by
  rw [decode_cop0 h, if_pos h0]; unfold decodeCop0Function; rw [h1]; rfl

theorem decode_tlbwr (h : fieldOpcode w = 0x10#6) (h0 : fieldCo w = true) (h1 : fieldFunct w = 0x06#6) :
    decode w = .ok (.tlbwr) := by
  rw [decode_cop0 h, if_pos h0]; unfold decodeCop0Function; rw [h1]; rfl

theorem decode_tlbr (h : fieldOpcode w = 0x10#6) (h0 : fieldCo w = true) (h1 : fieldFunct w = 0x01#6) :
    decode w = .ok (.tlbr) := by
  rw [decode_cop0 h, if_pos h0]; unfold decodeCop0Function; rw [h1]; rfl

theorem decode_tlbp (h : fieldOpcode w = 0x10#6) (h0 : fieldCo w = true) (h1 : fieldFunct w = 0x08#6) :
    decode w = .ok (.tlbp) := by
  rw [decode_cop0 h, if_pos h0]; unfold decodeCop0Function; rw [h1]; rfl

theorem decode_eret (h : fieldOpcode w = 0x10#6) (h0 : fieldCo w = true) (h1 : fieldFunct w = 0x18#6) :
    decode w = .ok (.eret) := by
  rw [decode_cop0 h, if_pos h0]; unfold decodeCop0Function; rw [h1]; rfl

theorem decode_cfc1 (h : fieldOpcode w = 0x11#6) (h1 : fieldRs w = 0x02#5) :
    decode w = .ok (.cfc1 (fieldRt w) (fieldRd w)) := by
  rw [decode_cop1 h]; unfold decodeCop1; rw [h1]; rfl

theorem decode_ctc1 (h : fieldOpcode w = 0x11#6) (h1 : fieldRs w = 0x06#5) :
    decode w = .ok (.ctc1 (fieldRt w) (fieldRd w)) := by
  rw [decode_cop1 h]; unfold decodeCop1; rw [h1]; rfl

theorem decode_mfc1 (h : fieldOpcode w = 0x11#6) (h1 : fieldRs w = 0x00#5) :
    decode w = .ok (.mfc1 (fieldRt w) (fieldRd w)) := by
  rw [decode_cop1 h]; unfold decodeCop1; rw [h1]; rfl

theorem decode_dmfc1 (h : fieldOpcode w = 0x11#6) (h1 : fieldRs w = 0x01#5) :
    decode w = .ok (.dmfc1 (fieldRt w) (fieldRd w)) := by
  rw [decode_cop1 h]; unfold decodeCop1; rw [h1]; rfl

theorem decode_mtc1 (h : fieldOpcode w = 0x11#6) (h1 : fieldRs w = 0x04#5) :
    decode w = .ok (.mtc1 (fieldRt w) (fieldRd w)) := by
  rw [decode_cop1 h]; unfold decodeCop1; rw [h1]; rfl

theorem decode_dmtc1 (h : fieldOpcode w = 0x11#6) (h1 : fieldRs w = 0x05#5) :
    decode w = .ok (.dmtc1 (fieldRt w) (fieldRd w)) := by
  rw [decode_cop1 h]; unfold decodeCop1; rw [h1]; rfl

theorem decode_bc1f (h : fieldOpcode w = 0x11#6) (h1 : fieldRs w = 0x08#5) (h2 : (fieldRt w).setWidth 2 = 0#2) :
    decode w = .ok (.bc1f (fieldImm w)) := by
  rw [decode_bc1 h h1]; unfold decodeBc1; rw [h2]; rfl

theorem decode_bc1t (h : fieldOpcode w = 0x11#6) (h1 : fieldRs w = 0x08#5) (h2 : (fieldRt w).setWidth 2 = 1#2) :
    decode w = .ok (.bc1t (fieldImm w)) := by
  rw [decode_bc1 h h1]; unfold decodeBc1; rw [h2]; rfl

theorem decode_bc1fl (h : fieldOpcode w = 0x11#6) (h1 : fieldRs w = 0x08#5) (h2 : (fieldRt w).setWidth 2 = 2#2) :
    decode w = .ok (.bc1fl (fieldImm w)) := by
  rw [decode_bc1 h h1]; unfold decodeBc1; rw [h2]; rfl

theorem decode_bc1tl (h : fieldOpcode w = 0x11#6) (h1 : fieldRs w = 0x08#5) (h2 : (fieldRt w).setWidth 2 = 3#2) :
    decode w = .ok (.bc1tl (fieldImm w)) := by
  rw [decode_bc1 h h1]; unfold decodeBc1; rw [h2]; rfl

theorem decode_lwc1 (h : fieldOpcode w = 0x31#6) :
    decode w = .ok (.lwc1 (fieldRs w) (fieldRt w) (fieldImm w)) := by
  unfold decode; rw [h]; rfl

theorem decode_ldc1 (h : fieldOpcode w = 0x35#6) :
    decode w = .ok (.ldc1 (fieldRs w) (fieldRt w) (fieldImm w)) := by
  unfold decode; rw [h]; rfl

theorem decode_swc1 (h : fieldOpcode w = 0x39#6) :
    decode w = .ok (.swc1 (fieldRs w) (fieldRt w) (fieldImm w)) := by
  unfold decode; rw [h]; rfl

theorem decode_sdc1 (h : fieldOpcode w = 0x3D#6) :
    decode w = .ok (.sdc1 (fieldRs w) (fieldRt w) (fieldImm w)) := by
  unfold decode; rw [h]; rfl

theorem decode_fpComputeS (h : fieldOpcode w = 0x11#6) (h1 : fieldRs w = 0x10#5) :
    decode w = .ok (.fpComputeS (fieldRt w) (fieldRd w) (fieldSa w) (fieldFunct w)) := by
  rw [decode_cop1 h]; unfold decodeCop1; rw [h1]; rfl

theorem decode_fpComputeD (h : fieldOpcode w = 0x11#6) (h1 : fieldRs w = 0x11#5) :
    decode w = .ok (.fpComputeD (fieldRt w) (fieldRd w) (fieldSa w) (fieldFunct w)) := by
  rw [decode_cop1 h]; unfold decodeCop1; rw [h1]; rfl

theorem decode_fpComputeW (h : fieldOpcode w = 0x11#6) (h1 : fieldRs w = 0x14#5) :
    decode w = .ok (.fpComputeW (fieldRt w) (fieldRd w) (fieldSa w) (fieldFunct w)) := by
  rw [decode_cop1 h]; unfold decodeCop1; rw [h1]; rfl

theorem decode_fpComputeL (h : fieldOpcode w = 0x11#6) (h1 : fieldRs w = 0x15#5) :
    decode w = .ok (.fpComputeL (fieldRt w) (fieldRd w) (fieldSa w) (fieldFunct w)) := by
  rw [decode_cop1 h]; unfold decodeCop1; rw [h1]; rfl

end Sys2Proof
end

