-- ==== Sys2Proof/Laws/Scheduler.lean ====
section
/-! SUPPORT. The scheduler: what one event does, that it keeps `State.DataInv`, and that the loop of Tick ends with nothing due. -/

namespace Sys2Proof.Machine

/-! ## One event -/

theorem runEvent_piDmaDone (s : State) :
    runEvent .piDmaDone s = recompute { s with
      mi := { s.mi with intr := writeBit s.mi.intr 4 true }, pi := { s.pi with busy := false } } := rfl

/-- The line counter after a line event (R451). -/
def nextLine (v : Vi) : BitVec 10 := if v.vSync.setWidth 10 ≤ v.line + 1#10 then 0#10 else v.line + 1#10

/-- A line event moves the line counter, MI_INTR, Cause.IP2 and the presented frames, and queues the next line event. -/
theorem runEvent_viLine (s : State) :
    ∃ i f, runEvent .viLine s = setTimer s.inputs.viLineCycles .viLine (recompute { s with
      mi := { s.mi with intr := i }, vi := { s.vi with line := nextLine s.vi }, frames := f }) := by
  simp only [runEvent, viLineEvent, nextLine, decide_eq_true_eq]
  by_cases h1 : s.vi.vSync.setWidth 10 ≤ s.vi.line + 1#10 <;> simp only [h1, if_true, if_false] <;> split
  · exact ⟨_, _, rfl⟩
  · exact ⟨s.mi.intr, _, rfl⟩
  · exact ⟨_, s.frames, rfl⟩
  · exact ⟨s.mi.intr, s.frames, rfl⟩

/-- What an event may change. -/
theorem runEvent_frame (k : EventKind) (s : State) :
    runEvent k s = { s with
      cop0 := { s.cop0 with cause := (runEvent k s).cop0.cause }, mi := { s.mi with intr := (runEvent k s).mi.intr }
      vi := { s.vi with line := (runEvent k s).vi.line }, pi := { s.pi with busy := (runEvent k s).pi.busy }
      queue := (runEvent k s).queue, nextSeq := (runEvent k s).nextSeq, frames := (runEvent k s).frames } := by
  cases k
  · rw [runEvent_piDmaDone]; rfl
  · obtain ⟨i, f, h⟩ := runEvent_viLine s
    rw [h]; rfl

theorem State.DataInv.runPiDmaDone {s : State} {e : Event} {q : List Event} (h : s.DataInv) (hq : s.queue = e :: q)
    (he : e.kind = .piDmaDone) : (runEvent .piDmaDone { s with queue := q }).DataInv := by
  have h1 := h.queue; have h2 := h.seqs; have h3 := h.viLine; have h4 := h.piBusy
  rw [hq] at h1 h2 h3 h4
  rw [runEvent_piDmaDone]
  exact { h with
    cop0 := recompute_legal h.cop0
    ip2 := by rw [recompute_cause, if_pos rfl]; rfl
    queue := (List.pairwise_cons.1 h1).2
    seqs := fun x hx => h2 x (List.mem_cons_of_mem _ hx)
    viLine := by simpa [List.filter_cons, he] using h3
    piBusy := by
      have h5 : (q.filter fun e => e.kind == .piDmaDone).length + 1 = if s.pi.busy then 1 else 0 := by
        simpa [List.filter_cons, he] using h4
      have h6 : (q.filter fun e => e.kind == .piDmaDone).length = 0 := by split at h5 <;> omega
      exact h6 }

theorem State.DataInv.runViLine {s : State} {e : Event} {q : List Event} (h : s.DataInv) (hq : s.queue = e :: q)
    (he : e.kind = .viLine) : (runEvent .viLine { s with queue := q }).DataInv := by
  have h1 := h.queue; have h2 := h.seqs; have h3 := h.viLine; have h4 := h.piBusy
  rw [hq] at h1 h2 h3 h4
  obtain ⟨i, f, hr⟩ := runEvent_viLine { s with queue := q }
  rw [hr]
  exact { h with
    cop0 := recompute_legal h.cop0
    ip2 := by simp only [setTimer]; rw [recompute_cause, if_pos rfl]; rfl
    queue := enqueue_sorted (List.pairwise_cons.1 h1).2 fun x hx => h2 x (List.mem_cons_of_mem _ hx)
    seqs := by
      intro x hx
      rcases mem_enqueue.1 hx with rfl | hx
      · exact Nat.lt_succ_self _
      · exact Nat.lt_succ_of_lt (h2 x (List.mem_cons_of_mem _ hx))
    viLine := by
      simp only [setTimer]
      rw [filter_enqueue]
      simpa [List.filter_cons, he] using h3
    piBusy := by
      simp only [setTimer]
      rw [filter_enqueue]
      have h5 : (q.filter fun e => e.kind == .piDmaDone).length = if s.pi.busy then 1 else 0 := by
        simpa [List.filter_cons, he] using h4
      exact h5 }

/-- Running the first event of the queue keeps the invariant. -/
theorem State.DataInv.runFirst {s : State} {e : Event} {q : List Event} (h : s.DataInv) (hq : s.queue = e :: q) :
    (runEvent e.kind { s with queue := q }).DataInv := by
  cases he : e.kind
  · exact h.runPiDmaDone hq he
  · exact h.runViLine hq he

/-! ## The loop -/

/-- The events that are due. -/
def dueCount (s : State) : Nat := (s.queue.filter fun e => decide (e.deadline ≤ s.now)).length

theorem dueCount_runFirst {s : State} {e : Event} {q : List Event} (h : s.DataInv) (hq : s.queue = e :: q)
    (hd : e.deadline ≤ s.now) : dueCount (runEvent e.kind { s with queue := q }) + 1 = dueCount s := by
  have h0 : dueCount s = (q.filter fun e => decide (e.deadline ≤ s.now)).length + 1 := by
    simp [dueCount, hq, hd]
  rw [h0]
  cases e.kind
  · rw [runEvent_piDmaDone]; rfl
  · obtain ⟨i, f, hr⟩ := runEvent_viLine { s with queue := q }
    rw [hr]
    simp only [dueCount, setTimer, recompute]
    rw [filter_enqueue, if_neg]
    · rfl
    · intro hc
      have hc : s.now + s.inputs.viLineCycles ≤ s.now := of_decide_eq_true hc
      have := h.lineCycles
      omega

/-- A state Tick may reach from `s`: only device state of the events is changed. -/
def TickFrame (s t : State) : Prop :=
  t = { s with
    cop0 := { s.cop0 with cause := t.cop0.cause }, mi := { s.mi with intr := t.mi.intr }
    vi := { s.vi with line := t.vi.line }, pi := { s.pi with busy := t.pi.busy }
    queue := t.queue, nextSeq := t.nextSeq, frames := t.frames }

theorem TickFrame.trans {s t u : State} (h : TickFrame s t) (g : TickFrame t u) : TickFrame s u := by
  unfold TickFrame at *
  rw [g, h]

/-- With as much fuel as events are due, the loop ends, nothing is due, and the invariant holds. -/
theorem tickLoop_ends {n : Nat} {s : State} (h : s.DataInv) (hn : dueCount s ≤ n) :
    ∃ t, tickLoop n s = .next t ∧ t.Inv ∧ TickFrame s t := by
  induction n generalizing s with
  | zero =>
    rw [tickLoop]
    split
    · next hq => exact ⟨s, rfl, ⟨h, by rw [hq]; simp⟩, rfl⟩
    · next e q hq =>
      have hd : s.now < e.deadline := by
        by_contra hd
        have := dueCount_runFirst h hq (Nat.le_of_not_lt hd)
        omega
      rw [if_pos hd]
      refine ⟨s, rfl, ⟨h, ?_⟩, rfl⟩
      have hp := h.queue
      rw [hq] at hp ⊢
      intro x hx
      rcases List.mem_cons.1 hx with rfl | hx
      · exact hd
      · have := (List.pairwise_cons.1 hp).1 x hx
        simp only [Event.before, Bool.or_eq_true, Bool.and_eq_true, decide_eq_true_eq, beq_iff_eq] at this
        omega
  | succ n ih =>
    rw [tickLoop]
    split
    · next hq => exact ⟨s, rfl, ⟨h, by rw [hq]; simp⟩, rfl⟩
    · next e q hq =>
      split
      · next hd =>
        refine ⟨s, rfl, ⟨h, ?_⟩, rfl⟩
        have hp := h.queue
        rw [hq] at hp ⊢
        intro x hx
        rcases List.mem_cons.1 hx with rfl | hx
        · exact hd
        · have := (List.pairwise_cons.1 hp).1 x hx
          simp only [Event.before, Bool.or_eq_true, Bool.and_eq_true, decide_eq_true_eq, beq_iff_eq] at this
          omega
      · next hd =>
        have hc := dueCount_runFirst h hq (Nat.le_of_not_lt hd)
        obtain ⟨t, h1, h2, h3⟩ := ih (h.runFirst hq) (by omega)
        refine ⟨t, h1, h2, TickFrame.trans ?_ h3⟩
        have := runEvent_frame e.kind { s with queue := q }
        unfold TickFrame
        exact this

/-- Advancing `now` touches nothing the invariant at a point of a step speaks of. -/
theorem State.DataInv.advanceNow {s : State} (h : s.DataInv) (n : Nat) : ({ s with now := s.now + n } : State).DataInv :=
  { h with }

/-- Nothing due: the loop stops at once. -/
theorem tickLoop_idle {n : Nat} {s : State} (h : ∀ e ∈ s.queue, s.now < e.deadline) : tickLoop n s = .next s := by
  cases n <;> rw [tickLoop] <;> split <;> try rfl
  all_goals
    next e q hq =>
    rw [if_pos (h e (by rw [hq]; exact List.mem_cons_self))]

end Sys2Proof.Machine
end

