-- ==== Sys2Proof/Laws/Execution.lean ====
section
/-! SUPPORT. What holds after a computation, however it goes on, composed over the shared operations; and that each shared operation
of the instructions keeps `State.DataInv`. -/

namespace Sys2Proof.Machine

/-- `P` holds of the state a computation ends in, unless it stops. -/
def Res.After {α : Type} (m : Res α) (P : State → Prop) : Prop :=
  match m with
  | .ok _ t => P t
  | .raised t => P t
  | .fatal _ _ => True

theorem Res.After.mono {α : Type} {m : Res α} {P Q : State → Prop} (h : m.After P) (g : ∀ t, P t → Q t) : m.After Q := by
  cases m <;> first | exact g _ h | trivial

theorem Res.After.bind {α β : Type} {m : Res α} {f : α → State → Res β} {P : State → Prop} (h : m.After P)
    (g : ∀ a t, m = .ok a t → P t → (f a t).After P) : (m.bind f).After P := by
  cases m with
  | ok a t => exact g a t rfl h
  | raised t => exact h
  | fatal r t => trivial

theorem Res.After.outcome {α : Type} {m : Res α} {P : State → Prop} {t : State} (h : m.After P) (hn : m.outcome = .next t) :
    P t := by
  cases m with
  | ok a u => simp only [Res.outcome, Host.Outcome.next.injEq] at hn; exact hn ▸ h
  | raised u => simp only [Res.outcome, Host.Outcome.next.injEq] at hn; exact hn ▸ h
  | fatal r u => simp [Res.outcome, stopFatal] at hn

theorem after_done {s : State} {P : State → Prop} (h : P s) : (done s).After P := h

theorem after_raise {α : Type} {k : Exc} {p : Bool} {s : State} {P : State → Prop} (h : P (enterException k p s)) :
    (raise k p s : Res α).After P := by
  unfold raise; split
  · trivial
  · exact h

theorem after_needs64 {α : Type} {s : State} {m : Res α} {P : State → Prop} (h : m.After P) : (needs64 s m).After P := by
  unfold needs64; split
  · trivial
  · exact h

theorem after_needsNoSlot {α : Type} {s : State} {m : Res α} {P : State → Prop} (h : m.After P) :
    (needsNoSlot s m).After P := by
  unfold needsNoSlot; split
  · trivial
  · exact h

theorem after_needsCop0 {α : Type} {s : State} {m : Res α} {P : State → Prop} (h : m.After P)
    (g : P (enterException (.copUnusable 0#2) true s)) : (needsCop0 s m).After P := by
  unfold needsCop0; split
  · exact h
  · exact after_raise g

theorem after_needsCop1 {α : Type} {s : State} {m : Res α} {P : State → Prop} (h : m.After P)
    (g : P (enterException (.copUnusable 1#2) true s)) : (needsCop1 s m).After P := by
  unfold needsCop1; split
  · exact h
  · exact after_raise g

theorem after_dataAddr {va : Dword} {acc : Access} {w : Width} {s : State} {P : State → Prop} (h : P s)
    (g : ∀ k, P (enterException k true s)) : (dataAddr va acc w s).After P := by
  unfold dataAddr
  split
  · trivial
  · split
    · exact h
    · exact after_raise (g _)
    · trivial

theorem dataAddr_aligned {va : Dword} {acc : Access} {w : Width} {s t : State} {pa : Word}
    (h : dataAddr va acc w s = .ok pa t) : pa.toNat % w.bytes = 0 :=
  translate_aligned (dataAddr_eq_ok.1 h).2.1

theorem container_aligned (pa : Word) (w : Width) : (container pa w).toNat % w.bytes = 0 := by
  have key : ∀ k, k < 32 → (pa &&& ~~~(BitVec.ofNat 32 (2 ^ k - 1))).toNat % 2 ^ k = 0 := by
    intro k hk
    apply Nat.eq_of_testBit_eq
    intro i
    rw [Nat.testBit_mod_two_pow, Nat.zero_testBit, Bool.and_eq_false_iff]
    by_cases hi : i < k
    · right
      rw [← BitVec.getLsbD, BitVec.getLsbD_and, BitVec.getLsbD_not, BitVec.getLsbD_ofNat, Nat.testBit_two_pow_sub_one]
      have : i < 32 := by omega
      simp [hi, this]
    · left; simp [hi]
  unfold container
  cases w
  · exact key 0 (by decide)
  · exact key 1 (by decide)
  · exact key 2 (by decide)
  · exact key 3 (by decide)

/-! ## The invariant through the memory operations -/

theorem State.DataInv.afterBusRead {s : State} (h : s.DataInv) (pa : Word) (w : Width) :
    (Machine.busRead pa w s).After State.DataInv := by
  cases hb : Machine.busRead pa w s with
  | ok v t => exact h.busRead hb
  | raised t => exact absurd hb busRead_ne_raised
  | fatal r t => trivial

theorem State.DataInv.afterBusWrite {s : State} (h : s.DataInv) {pa : Word} {w : Width} (ha : pa.toNat % w.bytes = 0)
    (v : Dword) : (Machine.busWrite pa w v s).After State.DataInv := by
  cases hb : Machine.busWrite pa w v s with
  | ok a t => exact h.busWrite ha hb
  | raised t => exact absurd hb busWrite_ne_raised
  | fatal r t => trivial

theorem State.DataInv.afterDataAddr {s : State} (h : s.DataInv) (va : Dword) (acc : Access) (w : Width) :
    (dataAddr va acc w s).After State.DataInv := after_dataAddr h fun _ => h.enterException _ _

theorem State.DataInv.afterMemRead {s : State} (h : s.DataInv) (va : Dword) (w : Width) :
    (memRead va w s).After State.DataInv :=
  (h.afterDataAddr va .load w).bind fun pa _ _ ht => ht.afterBusRead pa w

theorem State.DataInv.afterMemWrite {s : State} (h : s.DataInv) (va : Dword) (w : Width) (v : Dword) :
    (memWrite va w v s).After State.DataInv :=
  (h.afterDataAddr va .store w).bind fun _ _ hp ht => ht.afterBusWrite (dataAddr_aligned hp) v

theorem State.DataInv.afterLoad {s : State} (h : s.DataInv) (va : Dword) (w : Width) (rt : Reg) (f : Dword → Dword) :
    (load va w rt f s).After State.DataInv :=
  (h.afterMemRead va w).bind fun v _ _ ht => ht.setGpr rt (f v)

theorem State.DataInv.afterLoadPart {s : State} (h : s.DataInv) (va : Dword) (w : Width) (rt : Reg) (f : Dword → Dword) :
    (loadPart va w rt f s).After State.DataInv :=
  ((h.afterDataAddr va .load .byte).bind fun pa _ _ ht => ht.afterBusRead (container pa w) w).bind
    fun v _ _ ht => ht.setGpr rt (f v)

theorem State.DataInv.afterPartialWrite {s : State} (h : s.DataInv) (va : Dword) (w : Width) (mask bits : Dword) :
    (partialWrite va w mask bits s).After State.DataInv :=
  (h.afterDataAddr va .store .byte).bind fun pa _ _ ht =>
    (ht.afterBusRead (container pa w) w).bind fun _ _ _ hu => hu.afterBusWrite (container_aligned pa w) _

/-- LLAddr and the link bit are outside the invariant. -/
theorem State.DataInv.linked {s : State} (h : s.DataInv) (l : Bool) (a : Word) :
    ({ s with llbit := l, cop0 := { s.cop0 with llAddr := a } } : State).DataInv :=
  h.update rfl rfl rfl h.zero { h.cop0 with } rfl rfl h.tlb h.fcr31 rfl rfl rfl

theorem State.DataInv.afterLoadLinked {s : State} (h : s.DataInv) (va : Dword) (w : Width) (rt : Reg) (f : Dword → Dword) :
    (loadLinked va w rt f s).After State.DataInv :=
  (h.afterDataAddr va .load w).bind fun pa _ _ ht =>
    (ht.afterBusRead pa w).bind fun v _ _ hu => (hu.setGpr rt (f v)).linked true (pa >>> 4)

theorem State.DataInv.afterStoreConditional {s : State} (h : s.DataInv) (va : Dword) (w : Width) (rt : Reg) :
    (storeConditional va w rt s).After State.DataInv := by
  refine (h.afterDataAddr va .store w).bind fun pa t hp ht => ?_
  split
  · exact (ht.afterBusWrite (dataAddr_aligned hp) _).bind fun _ _ _ hu => hu.setGpr rt _
  · exact ht.setGpr rt _

/-! ## The invariant through the other shared operations -/

theorem State.DataInv.setFgr {s : State} (h : s.DataInv) (r : Reg) (v : Dword) : (s.setFgr r v).DataInv :=
  h.control s.hi s.lo s.prevPc s.pc s.nextPc s.delaySlot s.prevDelaySlot s.llbit _ s.draws

theorem State.DataInv.fpWrite32 {s : State} (h : s.DataInv) (r : Reg) (v : Word) : (fpWrite32 r v s).DataInv := by
  unfold Machine.fpWrite32; split <;> exact h.setFgr _ _

theorem State.DataInv.afterFpWrite64 {s : State} (h : s.DataInv) (r : Reg) (v : Dword) :
    (fpWrite64 r v s).After State.DataInv := by
  unfold fpWrite64; split
  · exact h.setFgr r v
  · trivial

theorem State.DataInv.branch {s : State} (h : s.DataInv) (c : Bool) (target : Dword) : (branch c target s).DataInv := by
  unfold Machine.branch; split
  · exact h.control s.hi s.lo s.prevPc s.pc target true s.prevDelaySlot s.llbit s.fgrs s.draws
  · exact h

theorem State.DataInv.branchLikely {s : State} (h : s.DataInv) (c : Bool) (target : Dword) :
    (branchLikely c target s).DataInv := by
  unfold Machine.branchLikely; split
  · exact h.control s.hi s.lo s.prevPc s.pc target true s.prevDelaySlot s.llbit s.fgrs s.draws
  · exact h.control s.hi s.lo s.prevPc s.nextPc (s.nextPc + 4#64) Config.likelyNtMarksDs s.prevDelaySlot s.llbit s.fgrs s.draws

theorem State.DataInv.link {s : State} (h : s.DataInv) (r : Reg) : (link r s).DataInv := h.setGpr r _

theorem State.DataInv.afterCop0Read {s : State} (h : s.DataInv) (n : BitVec 5) : (cop0Read n s).After State.DataInv := by
  unfold cop0Read
  split
  all_goals first
    | exact h
    | exact h.control s.hi s.lo s.prevPc s.pc s.nextPc s.delaySlot s.prevDelaySlot s.llbit s.fgrs (s.draws + 1)
    | trivial

/-- Bits 3 to 0 of Context and XContext are outside their write masks. -/
theorem clear_low_maskWrite {k old v : Dword} (hk : k &&& 0xF#64 = 0#64) (h : old &&& 0xF#64 = 0#64) :
    maskWrite k old v &&& 0xF#64 = 0#64 := by
  have h1 := clear_maskWrite (m := ~~~0xF#64) (k := k) (old := old) (v := v)
    (by rw [BitVec.not_not]; exact h) (by rw [BitVec.not_not]; exact hk)
  rwa [BitVec.not_not] at h1

theorem State.DataInv.afterCop0Write {s : State} (h : s.DataInv) (n : BitVec 5) (v : Dword) :
    (cop0Write n v s).After State.DataInv := by
  unfold cop0Write
  split
  all_goals first
    | exact h
    | exact h.setCop0 { h.cop0 with } rfl
    | exact h.setCop0 { h.cop0 with index := clear_maskWrite h.cop0.index (by decide) } rfl
    | exact h.setCop0 { h.cop0 with entryLo0 := clear_maskWrite h.cop0.entryLo0 (by decide) } rfl
    | exact h.setCop0 { h.cop0 with entryLo1 := clear_maskWrite h.cop0.entryLo1 (by decide) } rfl
    | exact h.setCop0 { h.cop0 with context := clear_low_maskWrite (by decide) h.cop0.context } rfl
    | exact h.setCop0 { h.cop0 with pageMask := clear_maskWrite h.cop0.pageMask (by decide) } rfl
    | exact h.setCop0 { h.cop0 with wired := clear_maskWrite h.cop0.wired (by decide) } rfl
    | exact h.setCop0 { h.cop0 with entryHi := clear_maskWrite h.cop0.entryHi (by decide) } rfl
    | exact h.setCop0 { h.cop0 with status := clear_maskWrite h.cop0.status (by decide) } rfl
    | exact h.setCop0 { h.cop0 with cause := clear_maskWrite h.cop0.cause (by decide) }
        (by rw [getLsbD_maskWrite, if_neg (by decide)])
    | exact h.setCop0 { h.cop0 with cause := clear_writeBit (by decide) h.cop0.cause (by decide) }
        (by rw [getLsbD_writeBit _ _ _ _ (by decide), if_neg (by decide)])
    | exact h.setCop0 { h.cop0 with config := (kept_maskWrite (by decide)).trans h.cop0.config } rfl
    | exact h.setCop0 { h.cop0 with
        watchLo := by
          have h1 := clear_maskWrite (m := ~~~4#32) (k := 0xFFFFFFFB#32) (old := s.cop0.watchLo) (v := lo32 v)
            (by rw [BitVec.not_not]; exact h.cop0.watchLo) (by decide)
          rwa [BitVec.not_not] at h1 } rfl
    | exact h.setCop0 { h.cop0 with watchHi := clear_maskWrite h.cop0.watchHi (by decide) } rfl
    | exact h.setCop0 { h.cop0 with xContext := clear_low_maskWrite (by decide) h.cop0.xContext } rfl
    | trivial

/-- The entry TLBWI writes is legal when PageMask is (R371). -/
theorem entryOfCop0_legal {c : Cop0} (h : c.Legal) (hm : legalPageMask c.pageMask = true) : (entryOfCop0 c).Legal where
  mask := by
    have : c.pageMask &&& 0x01FFE000#32 = c.pageMask := by
      have h1 := h.pageMask
      apply BitVec.eq_of_getLsbD_eq
      intro i hi
      have h2 := congrArg (fun b => b.getLsbD i) h1
      simp only [BitVec.getLsbD_and, BitVec.getLsbD_not, BitVec.getLsbD_zero, hi, decide_true, Bool.true_and] at h2 ⊢
      generalize c.pageMask.getLsbD i = x at *; generalize (0x01FFE000#32).getLsbD i = y at *
      cases x <;> cases y <;> simp_all
    simp only [entryOfCop0]
    rw [this]; exact hm
  vpn2 := clear_and (by decide)
  lo0 := clear_and (by decide)
  lo1 := clear_and (by decide)

theorem legalPageMask_clear {m : Word} (h : legalPageMask m = true) : m &&& ~~~0x01FFE000#32 = 0#32 := by
  simp only [legalPageMask, List.contains_eq_mem, List.mem_cons, List.not_mem_nil, or_false, decide_eq_true_eq] at h
  rcases h with h | h | h | h | h | h | h <;> rw [h] <;> decide

/-- COP0 after TLBR of a legal entry is legal (R373). -/
theorem cop0OfEntry_legal {c : Cop0} {e : TlbEntry} (h : c.Legal) (he : e.Legal) : (cop0OfEntry e c).Legal :=
  have g : (BitVec.ofBool e.g).setWidth 32 &&& ~~~0x03FFFFFF#32 = (0#32 : Word) := by cases e.g <;> decide
  have low : ∀ x : Word, x &&& ~~~0x03FFFFFE#32 = 0#32 → x &&& ~~~0x03FFFFFF#32 = 0#32 := by
    intro x hx
    have : (~~~0x03FFFFFF#32 : Word) = ~~~0x03FFFFFE#32 &&& ~~~0x03FFFFFF#32 := by decide
    rw [this, ← BitVec.and_assoc, hx, BitVec.zero_and]
  { h with
    pageMask := legalPageMask_clear he.mask
    entryHi := by
      refine clear_or ?_ ?_
      · have : (~~~0xC00000FFFFFFE0FF#64 : Dword) = ~~~0xC00000FFFFFFE000#64 &&& ~~~0xC00000FFFFFFE0FF#64 := by decide
        rw [this, ← BitVec.and_assoc, he.vpn2, BitVec.zero_and]
      · have : ∀ a : BitVec 8, a.setWidth 64 &&& ~~~0xC00000FFFFFFE0FF#64 = 0#64 := by
          intro a
          apply BitVec.eq_of_getLsbD_eq
          intro i hi
          simp only [BitVec.getLsbD_and, BitVec.getLsbD_not, BitVec.getLsbD_zero, BitVec.getLsbD_setWidth, hi, decide_true,
            Bool.true_and]
          by_cases h8 : i < 8
          · have : ∀ i < 8, (0xC00000FFFFFFE0FF#64).getLsbD i = true := by decide
            rw [this i h8]; simp
          · rw [BitVec.getLsbD_of_ge a i (by omega), Bool.false_and]
        exact this _
    entryLo0 := clear_or (low _ he.lo0) g
    entryLo1 := clear_or (low _ he.lo1) g }

theorem State.DataInv.slotLegal {s : State} (h : s.DataInv) (n : Nat) (hn : n < 32) : (s.tlb[n]'hn).Legal :=
  h.tlb _ (Vector.mem_toList_iff.2 (Vector.getElem_mem hn))

/-! ## The invariant through the parts of a step -/

theorem State.DataInv.beginStep {s : State} (h : s.DataInv) : (beginStep s).DataInv := by
  refine h.update rfl rfl rfl h.zero ?_ ?_ rfl h.tlb h.fcr31 rfl rfl rfl
  · refine { h.cop0 with cause := ?_ }
    simp only [Machine.beginStep]
    split
    · exact clear_writeBit (by decide) h.cop0.cause (by decide)
    · exact h.cop0.cause
  · simp only [Machine.beginStep]
    split
    · rw [getLsbD_writeBit _ _ _ _ (by decide), if_neg (by decide)]
    · rfl

theorem State.DataInv.countUp {s : State} (h : s.DataInv) : (countUp s).DataInv := h.setCop0 { h.cop0 with } rfl

theorem State.DataInv.afterTakeInterrupt {s : State} (h : s.DataInv) : (takeInterrupt s).After State.DataInv := by
  unfold takeInterrupt
  split
  · unfold raise
    cases s.bev
    · exact h.enterException .interrupt false
    · trivial
  · exact h

theorem State.DataInv.afterFetchAtPc {s : State} (h : s.DataInv) : (fetchAtPc s).After State.DataInv := by
  unfold fetchAtPc
  split
  · exact after_raise (h.enterException _ _)
  · trivial
  · exact (h.afterBusRead _ _).bind fun _ t _ ht =>
      ht.control t.hi t.lo t.pc t.nextPc (t.nextPc + 4#64) t.delaySlot t.prevDelaySlot t.llbit t.fgrs t.draws

theorem State.DataInv.afterFetch {s : State} (h : s.DataInv) : (fetch s).After State.DataInv :=
  h.beginStep.afterTakeInterrupt.bind fun _ _ _ ht => ht.afterFetchAtPc

end Sys2Proof.Machine
end

