-- ==== Sys2Proof/Laws/PerInstr.lean ====
section
/-! SUPPORT. Statements made per instruction. EncodingFitsTable: the encoder's word of an instruction, under the mask of its row
of spec/opcode_table.json, is the row's match value. -/

namespace Sys2Proof.Laws.EncodingFitsTable

/-- The mask and the match value of the instruction's row in spec/opcode_table.json. -/
def tableRow (i : Instr) : Word × Word :=
  match i with
  | .add _ _ _ => (0xFC00003F#32, 0x00000020#32)
  | .addu _ _ _ => (0xFC00003F#32, 0x00000021#32)
  | .sub _ _ _ => (0xFC00003F#32, 0x00000022#32)
  | .subu _ _ _ => (0xFC00003F#32, 0x00000023#32)
  | .addi _ _ _ => (0xFC000000#32, 0x20000000#32)
  | .addiu _ _ _ => (0xFC000000#32, 0x24000000#32)
  | .dadd _ _ _ => (0xFC00003F#32, 0x0000002C#32)
  | .daddu _ _ _ => (0xFC00003F#32, 0x0000002D#32)
  | .dsub _ _ _ => (0xFC00003F#32, 0x0000002E#32)
  | .dsubu _ _ _ => (0xFC00003F#32, 0x0000002F#32)
  | .daddi _ _ _ => (0xFC000000#32, 0x60000000#32)
  | .daddiu _ _ _ => (0xFC000000#32, 0x64000000#32)
  | .slt _ _ _ => (0xFC00003F#32, 0x0000002A#32)
  | .sltu _ _ _ => (0xFC00003F#32, 0x0000002B#32)
  | .slti _ _ _ => (0xFC000000#32, 0x28000000#32)
  | .sltiu _ _ _ => (0xFC000000#32, 0x2C000000#32)
  | .and _ _ _ => (0xFC00003F#32, 0x00000024#32)
  | .or _ _ _ => (0xFC00003F#32, 0x00000025#32)
  | .xor _ _ _ => (0xFC00003F#32, 0x00000026#32)
  | .nor _ _ _ => (0xFC00003F#32, 0x00000027#32)
  | .andi _ _ _ => (0xFC000000#32, 0x30000000#32)
  | .ori _ _ _ => (0xFC000000#32, 0x34000000#32)
  | .xori _ _ _ => (0xFC000000#32, 0x38000000#32)
  | .lui _ _ => (0xFC000000#32, 0x3C000000#32)
  | .sll _ _ _ => (0xFC00003F#32, 0x00000000#32)
  | .srl _ _ _ => (0xFC00003F#32, 0x00000002#32)
  | .sra _ _ _ => (0xFC00003F#32, 0x00000003#32)
  | .sllv _ _ _ => (0xFC00003F#32, 0x00000004#32)
  | .srlv _ _ _ => (0xFC00003F#32, 0x00000006#32)
  | .srav _ _ _ => (0xFC00003F#32, 0x00000007#32)
  | .dsll _ _ _ => (0xFC00003F#32, 0x00000038#32)
  | .dsrl _ _ _ => (0xFC00003F#32, 0x0000003A#32)
  | .dsra _ _ _ => (0xFC00003F#32, 0x0000003B#32)
  | .dsll32 _ _ _ => (0xFC00003F#32, 0x0000003C#32)
  | .dsrl32 _ _ _ => (0xFC00003F#32, 0x0000003E#32)
  | .dsra32 _ _ _ => (0xFC00003F#32, 0x0000003F#32)
  | .dsllv _ _ _ => (0xFC00003F#32, 0x00000014#32)
  | .dsrlv _ _ _ => (0xFC00003F#32, 0x00000016#32)
  | .dsrav _ _ _ => (0xFC00003F#32, 0x00000017#32)
  | .mfhi _ => (0xFC00003F#32, 0x00000010#32)
  | .mthi _ => (0xFC00003F#32, 0x00000011#32)
  | .mflo _ => (0xFC00003F#32, 0x00000012#32)
  | .mtlo _ => (0xFC00003F#32, 0x00000013#32)
  | .mult _ _ => (0xFC00003F#32, 0x00000018#32)
  | .multu _ _ => (0xFC00003F#32, 0x00000019#32)
  | .dmult _ _ => (0xFC00003F#32, 0x0000001C#32)
  | .dmultu _ _ => (0xFC00003F#32, 0x0000001D#32)
  | .div _ _ => (0xFC00003F#32, 0x0000001A#32)
  | .divu _ _ => (0xFC00003F#32, 0x0000001B#32)
  | .ddiv _ _ => (0xFC00003F#32, 0x0000001E#32)
  | .ddivu _ _ => (0xFC00003F#32, 0x0000001F#32)
  | .beq _ _ _ => (0xFC000000#32, 0x10000000#32)
  | .bne _ _ _ => (0xFC000000#32, 0x14000000#32)
  | .blez _ _ => (0xFC000000#32, 0x18000000#32)
  | .bgtz _ _ => (0xFC000000#32, 0x1C000000#32)
  | .bltz _ _ => (0xFC1F0000#32, 0x04000000#32)
  | .bgez _ _ => (0xFC1F0000#32, 0x04010000#32)
  | .bltzal _ _ => (0xFC1F0000#32, 0x04100000#32)
  | .bgezal _ _ => (0xFC1F0000#32, 0x04110000#32)
  | .beql _ _ _ => (0xFC000000#32, 0x50000000#32)
  | .bnel _ _ _ => (0xFC000000#32, 0x54000000#32)
  | .blezl _ _ => (0xFC000000#32, 0x58000000#32)
  | .bgtzl _ _ => (0xFC000000#32, 0x5C000000#32)
  | .bltzl _ _ => (0xFC1F0000#32, 0x04020000#32)
  | .bgezl _ _ => (0xFC1F0000#32, 0x04030000#32)
  | .bltzall _ _ => (0xFC1F0000#32, 0x04120000#32)
  | .bgezall _ _ => (0xFC1F0000#32, 0x04130000#32)
  | .j _ => (0xFC000000#32, 0x08000000#32)
  | .jal _ => (0xFC000000#32, 0x0C000000#32)
  | .jr _ => (0xFC00003F#32, 0x00000008#32)
  | .jalr _ _ => (0xFC00003F#32, 0x00000009#32)
  | .lb _ _ _ => (0xFC000000#32, 0x80000000#32)
  | .lbu _ _ _ => (0xFC000000#32, 0x90000000#32)
  | .lh _ _ _ => (0xFC000000#32, 0x84000000#32)
  | .lhu _ _ _ => (0xFC000000#32, 0x94000000#32)
  | .lw _ _ _ => (0xFC000000#32, 0x8C000000#32)
  | .lwu _ _ _ => (0xFC000000#32, 0x9C000000#32)
  | .ld _ _ _ => (0xFC000000#32, 0xDC000000#32)
  | .lwl _ _ _ => (0xFC000000#32, 0x88000000#32)
  | .lwr _ _ _ => (0xFC000000#32, 0x98000000#32)
  | .ldl _ _ _ => (0xFC000000#32, 0x68000000#32)
  | .ldr _ _ _ => (0xFC000000#32, 0x6C000000#32)
  | .sb _ _ _ => (0xFC000000#32, 0xA0000000#32)
  | .sh _ _ _ => (0xFC000000#32, 0xA4000000#32)
  | .sw _ _ _ => (0xFC000000#32, 0xAC000000#32)
  | .sd _ _ _ => (0xFC000000#32, 0xFC000000#32)
  | .ll _ _ _ => (0xFC000000#32, 0xC0000000#32)
  | .lld _ _ _ => (0xFC000000#32, 0xD0000000#32)
  | .sc _ _ _ => (0xFC000000#32, 0xE0000000#32)
  | .scd _ _ _ => (0xFC000000#32, 0xF0000000#32)
  | .swl _ _ _ => (0xFC000000#32, 0xA8000000#32)
  | .swr _ _ _ => (0xFC000000#32, 0xB8000000#32)
  | .sdl _ _ _ => (0xFC000000#32, 0xB0000000#32)
  | .sdr _ _ _ => (0xFC000000#32, 0xB4000000#32)
  | .syscall _ => (0xFC00003F#32, 0x0000000C#32)
  | .brk _ => (0xFC00003F#32, 0x0000000D#32)
  | .tge _ _ _ => (0xFC00003F#32, 0x00000030#32)
  | .tgeu _ _ _ => (0xFC00003F#32, 0x00000031#32)
  | .tlt _ _ _ => (0xFC00003F#32, 0x00000032#32)
  | .tltu _ _ _ => (0xFC00003F#32, 0x00000033#32)
  | .teq _ _ _ => (0xFC00003F#32, 0x00000034#32)
  | .tne _ _ _ => (0xFC00003F#32, 0x00000036#32)
  | .tgei _ _ => (0xFC1F0000#32, 0x04080000#32)
  | .tgeiu _ _ => (0xFC1F0000#32, 0x04090000#32)
  | .tlti _ _ => (0xFC1F0000#32, 0x040A0000#32)
  | .tltiu _ _ => (0xFC1F0000#32, 0x040B0000#32)
  | .teqi _ _ => (0xFC1F0000#32, 0x040C0000#32)
  | .tnei _ _ => (0xFC1F0000#32, 0x040E0000#32)
  | .sync _ => (0xFC00003F#32, 0x0000000F#32)
  | .cache _ _ _ => (0xFC000000#32, 0xBC000000#32)
  | .mfc0 _ _ => (0xFFE00000#32, 0x40000000#32)
  | .dmfc0 _ _ => (0xFFE00000#32, 0x40200000#32)
  | .mtc0 _ _ => (0xFFE00000#32, 0x40800000#32)
  | .dmtc0 _ _ => (0xFFE00000#32, 0x40A00000#32)
  | .tlbwi => (0xFE00003F#32, 0x42000002#32)
  | .tlbwr => (0xFE00003F#32, 0x42000006#32)
  | .tlbr => (0xFE00003F#32, 0x42000001#32)
  | .tlbp => (0xFE00003F#32, 0x42000008#32)
  | .eret => (0xFE00003F#32, 0x42000018#32)
  | .cfc1 _ _ => (0xFFE00000#32, 0x44400000#32)
  | .ctc1 _ _ => (0xFFE00000#32, 0x44C00000#32)
  | .mfc1 _ _ => (0xFFE00000#32, 0x44000000#32)
  | .dmfc1 _ _ => (0xFFE00000#32, 0x44200000#32)
  | .mtc1 _ _ => (0xFFE00000#32, 0x44800000#32)
  | .dmtc1 _ _ => (0xFFE00000#32, 0x44A00000#32)
  | .bc1f _ => (0xFFE30000#32, 0x45000000#32)
  | .bc1t _ => (0xFFE30000#32, 0x45010000#32)
  | .bc1fl _ => (0xFFE30000#32, 0x45020000#32)
  | .bc1tl _ => (0xFFE30000#32, 0x45030000#32)
  | .lwc1 _ _ _ => (0xFC000000#32, 0xC4000000#32)
  | .ldc1 _ _ _ => (0xFC000000#32, 0xD4000000#32)
  | .swc1 _ _ _ => (0xFC000000#32, 0xE4000000#32)
  | .sdc1 _ _ _ => (0xFC000000#32, 0xF4000000#32)
  | .fpComputeS _ _ _ _ => (0xFFE00000#32, 0x46000000#32)
  | .fpComputeD _ _ _ _ => (0xFFE00000#32, 0x46200000#32)
  | .fpComputeW _ _ _ _ => (0xFFE00000#32, 0x46800000#32)
  | .fpComputeL _ _ _ _ => (0xFFE00000#32, 0x46A00000#32)

/-- The encoder's word has the fixed bits of the instruction's row. -/
def Statement (i : Instr) : Prop := encode i &&& (tableRow i).1 = (tableRow i).2

theorem and_ones6 (x : BitVec 6) : x &&& 0x3F#6 = x := BitVec.and_allOnes
theorem and_ones5 (x : BitVec 5) : x &&& 0x1F#5 = x := BitVec.and_allOnes

theorem maskR_FC00003F_fields (op : BitVec 6) (rs rt rd sa : BitVec 5) (funct : BitVec 6) :
    (op ++ rs ++ rt ++ rd ++ sa ++ funct) &&& (0x3F#6 ++ 0x0#5 ++ 0x0#5 ++ 0x0#5 ++ 0x0#5 ++ 0x3F#6) =
      op ++ 0#5 ++ 0#5 ++ 0#5 ++ 0#5 ++ funct := by
  simp only [BitVec.and_append, BitVec.and_zero, and_ones6]

theorem maskR_FC00003F (op : BitVec 6) (rs rt rd sa : BitVec 5) (funct : BitVec 6) :
    layoutR op rs rt rd sa funct &&& 0xFC00003F#32 = op ++ 0#5 ++ 0#5 ++ 0#5 ++ 0#5 ++ funct :=
  maskR_FC00003F_fields op rs rt rd sa funct

theorem maskI_FC000000_fields (op : BitVec 6) (rs rt : BitVec 5) (imm : BitVec 16) :
    (op ++ rs ++ rt ++ imm) &&& (0x3F#6 ++ 0x0#5 ++ 0x0#5 ++ 0x0#16) =
      op ++ 0#5 ++ 0#5 ++ 0#16 := by
  simp only [BitVec.and_append, BitVec.and_zero, and_ones6]

theorem maskI_FC000000 (op : BitVec 6) (rs rt : BitVec 5) (imm : BitVec 16) :
    layoutI op rs rt imm &&& 0xFC000000#32 = op ++ 0#5 ++ 0#5 ++ 0#16 :=
  maskI_FC000000_fields op rs rt imm

theorem maskI_FC1F0000_fields (op : BitVec 6) (rs rt : BitVec 5) (imm : BitVec 16) :
    (op ++ rs ++ rt ++ imm) &&& (0x3F#6 ++ 0x0#5 ++ 0x1F#5 ++ 0x0#16) =
      op ++ 0#5 ++ rt ++ 0#16 := by
  simp only [BitVec.and_append, BitVec.and_zero, and_ones6, and_ones5]

theorem maskI_FC1F0000 (op : BitVec 6) (rs rt : BitVec 5) (imm : BitVec 16) :
    layoutI op rs rt imm &&& 0xFC1F0000#32 = op ++ 0#5 ++ rt ++ 0#16 :=
  maskI_FC1F0000_fields op rs rt imm

theorem maskJ_FC000000_fields (op : BitVec 6) (index : BitVec 26) :
    (op ++ index) &&& (0x3F#6 ++ 0x0#26) =
      op ++ 0#26 := by
  simp only [BitVec.and_append, BitVec.and_zero, and_ones6]

theorem maskJ_FC000000 (op : BitVec 6) (index : BitVec 26) :
    layoutJ op index &&& 0xFC000000#32 = op ++ 0#26 :=
  maskJ_FC000000_fields op index

theorem maskCode_FC00003F_fields (code : BitVec 20) (funct : BitVec 6) :
    (0#6 ++ code ++ funct) &&& (0x3F#6 ++ 0x0#20 ++ 0x3F#6) =
      0#6 ++ 0#20 ++ funct := by
  simp only [BitVec.and_append, BitVec.and_zero, and_ones6]

theorem maskCode_FC00003F (code : BitVec 20) (funct : BitVec 6) :
    layoutCode code funct &&& 0xFC00003F#32 = 0#6 ++ 0#20 ++ funct :=
  maskCode_FC00003F_fields code funct

theorem maskTcode_FC00003F_fields (rs rt : BitVec 5) (code : BitVec 10) (funct : BitVec 6) :
    (0#6 ++ rs ++ rt ++ code ++ funct) &&& (0x3F#6 ++ 0x0#5 ++ 0x0#5 ++ 0x0#10 ++ 0x3F#6) =
      0#6 ++ 0#5 ++ 0#5 ++ 0#10 ++ funct := by
  simp only [BitVec.and_append, BitVec.and_zero, and_ones6]

theorem maskTcode_FC00003F (rs rt : BitVec 5) (code : BitVec 10) (funct : BitVec 6) :
    layoutTcode rs rt code funct &&& 0xFC00003F#32 = 0#6 ++ 0#5 ++ 0#5 ++ 0#10 ++ funct :=
  maskTcode_FC00003F_fields rs rt code funct

theorem maskR_FFE00000_fields (op : BitVec 6) (rs rt rd sa : BitVec 5) (funct : BitVec 6) :
    (op ++ rs ++ rt ++ rd ++ sa ++ funct) &&& (0x3F#6 ++ 0x1F#5 ++ 0x0#5 ++ 0x0#5 ++ 0x0#5 ++ 0x0#6) =
      op ++ rs ++ 0#5 ++ 0#5 ++ 0#5 ++ 0#6 := by
  simp only [BitVec.and_append, BitVec.and_zero, and_ones6, and_ones5]

theorem maskR_FFE00000 (op : BitVec 6) (rs rt rd sa : BitVec 5) (funct : BitVec 6) :
    layoutR op rs rt rd sa funct &&& 0xFFE00000#32 = op ++ rs ++ 0#5 ++ 0#5 ++ 0#5 ++ 0#6 :=
  maskR_FFE00000_fields op rs rt rd sa funct

theorem maskR_FE00003F_fields (op : BitVec 6) (rs rt rd sa : BitVec 5) (funct : BitVec 6) :
    (op ++ rs ++ rt ++ rd ++ sa ++ funct) &&& (0x3F#6 ++ 0x10#5 ++ 0x0#5 ++ 0x0#5 ++ 0x0#5 ++ 0x3F#6) =
      op ++ (rs &&& 0x10#5) ++ 0#5 ++ 0#5 ++ 0#5 ++ funct := by
  simp only [BitVec.and_append, BitVec.and_zero, and_ones6]

theorem maskR_FE00003F (op : BitVec 6) (rs rt rd sa : BitVec 5) (funct : BitVec 6) :
    layoutR op rs rt rd sa funct &&& 0xFE00003F#32 = op ++ (rs &&& 0x10#5) ++ 0#5 ++ 0#5 ++ 0#5 ++ funct :=
  maskR_FE00003F_fields op rs rt rd sa funct

theorem maskI_FFE30000_fields (op : BitVec 6) (rs rt : BitVec 5) (imm : BitVec 16) :
    (op ++ rs ++ rt ++ imm) &&& (0x3F#6 ++ 0x1F#5 ++ 0x3#5 ++ 0x0#16) =
      op ++ rs ++ (rt &&& 0x3#5) ++ 0#16 := by
  simp only [BitVec.and_append, BitVec.and_zero, and_ones6, and_ones5]

theorem maskI_FFE30000 (op : BitVec 6) (rs rt : BitVec 5) (imm : BitVec 16) :
    layoutI op rs rt imm &&& 0xFFE30000#32 = op ++ rs ++ (rt &&& 0x3#5) ++ 0#16 :=
  maskI_FFE30000_fields op rs rt imm

theorem add (rs rt rd : Reg) : Statement (.add rs rt rd) :=
  maskR_FC00003F 0x00#6 rs rt rd 0x00#5 0x20#6
theorem addu (rs rt rd : Reg) : Statement (.addu rs rt rd) :=
  maskR_FC00003F 0x00#6 rs rt rd 0x00#5 0x21#6
theorem sub (rs rt rd : Reg) : Statement (.sub rs rt rd) :=
  maskR_FC00003F 0x00#6 rs rt rd 0x00#5 0x22#6
theorem subu (rs rt rd : Reg) : Statement (.subu rs rt rd) :=
  maskR_FC00003F 0x00#6 rs rt rd 0x00#5 0x23#6
theorem addi (rs rt : Reg) (imm : Imm) : Statement (.addi rs rt imm) :=
  maskI_FC000000 0x08#6 rs rt imm
theorem addiu (rs rt : Reg) (imm : Imm) : Statement (.addiu rs rt imm) :=
  maskI_FC000000 0x09#6 rs rt imm
theorem dadd (rs rt rd : Reg) : Statement (.dadd rs rt rd) :=
  maskR_FC00003F 0x00#6 rs rt rd 0x00#5 0x2C#6
theorem daddu (rs rt rd : Reg) : Statement (.daddu rs rt rd) :=
  maskR_FC00003F 0x00#6 rs rt rd 0x00#5 0x2D#6
theorem dsub (rs rt rd : Reg) : Statement (.dsub rs rt rd) :=
  maskR_FC00003F 0x00#6 rs rt rd 0x00#5 0x2E#6
theorem dsubu (rs rt rd : Reg) : Statement (.dsubu rs rt rd) :=
  maskR_FC00003F 0x00#6 rs rt rd 0x00#5 0x2F#6
theorem daddi (rs rt : Reg) (imm : Imm) : Statement (.daddi rs rt imm) :=
  maskI_FC000000 0x18#6 rs rt imm
theorem daddiu (rs rt : Reg) (imm : Imm) : Statement (.daddiu rs rt imm) :=
  maskI_FC000000 0x19#6 rs rt imm
theorem slt (rs rt rd : Reg) : Statement (.slt rs rt rd) :=
  maskR_FC00003F 0x00#6 rs rt rd 0x00#5 0x2A#6
theorem sltu (rs rt rd : Reg) : Statement (.sltu rs rt rd) :=
  maskR_FC00003F 0x00#6 rs rt rd 0x00#5 0x2B#6
theorem slti (rs rt : Reg) (imm : Imm) : Statement (.slti rs rt imm) :=
  maskI_FC000000 0x0A#6 rs rt imm
theorem sltiu (rs rt : Reg) (imm : Imm) : Statement (.sltiu rs rt imm) :=
  maskI_FC000000 0x0B#6 rs rt imm
theorem and (rs rt rd : Reg) : Statement (.and rs rt rd) :=
  maskR_FC00003F 0x00#6 rs rt rd 0x00#5 0x24#6
theorem or (rs rt rd : Reg) : Statement (.or rs rt rd) :=
  maskR_FC00003F 0x00#6 rs rt rd 0x00#5 0x25#6
theorem xor (rs rt rd : Reg) : Statement (.xor rs rt rd) :=
  maskR_FC00003F 0x00#6 rs rt rd 0x00#5 0x26#6
theorem nor (rs rt rd : Reg) : Statement (.nor rs rt rd) :=
  maskR_FC00003F 0x00#6 rs rt rd 0x00#5 0x27#6
theorem andi (rs rt : Reg) (imm : Imm) : Statement (.andi rs rt imm) :=
  maskI_FC000000 0x0C#6 rs rt imm
theorem ori (rs rt : Reg) (imm : Imm) : Statement (.ori rs rt imm) :=
  maskI_FC000000 0x0D#6 rs rt imm
theorem xori (rs rt : Reg) (imm : Imm) : Statement (.xori rs rt imm) :=
  maskI_FC000000 0x0E#6 rs rt imm
theorem lui (rt : Reg) (imm : Imm) : Statement (.lui rt imm) :=
  maskI_FC000000 0x0F#6 0x00#5 rt imm
theorem sll (rt rd : Reg) (sa : BitVec 5) : Statement (.sll rt rd sa) :=
  maskR_FC00003F 0x00#6 0x00#5 rt rd sa 0x00#6
theorem srl (rt rd : Reg) (sa : BitVec 5) : Statement (.srl rt rd sa) :=
  maskR_FC00003F 0x00#6 0x00#5 rt rd sa 0x02#6
theorem sra (rt rd : Reg) (sa : BitVec 5) : Statement (.sra rt rd sa) :=
  maskR_FC00003F 0x00#6 0x00#5 rt rd sa 0x03#6
theorem sllv (rs rt rd : Reg) : Statement (.sllv rs rt rd) :=
  maskR_FC00003F 0x00#6 rs rt rd 0x00#5 0x04#6
theorem srlv (rs rt rd : Reg) : Statement (.srlv rs rt rd) :=
  maskR_FC00003F 0x00#6 rs rt rd 0x00#5 0x06#6
theorem srav (rs rt rd : Reg) : Statement (.srav rs rt rd) :=
  maskR_FC00003F 0x00#6 rs rt rd 0x00#5 0x07#6
theorem dsll (rt rd : Reg) (sa : BitVec 5) : Statement (.dsll rt rd sa) :=
  maskR_FC00003F 0x00#6 0x00#5 rt rd sa 0x38#6
theorem dsrl (rt rd : Reg) (sa : BitVec 5) : Statement (.dsrl rt rd sa) :=
  maskR_FC00003F 0x00#6 0x00#5 rt rd sa 0x3A#6
theorem dsra (rt rd : Reg) (sa : BitVec 5) : Statement (.dsra rt rd sa) :=
  maskR_FC00003F 0x00#6 0x00#5 rt rd sa 0x3B#6
theorem dsll32 (rt rd : Reg) (sa : BitVec 5) : Statement (.dsll32 rt rd sa) :=
  maskR_FC00003F 0x00#6 0x00#5 rt rd sa 0x3C#6
theorem dsrl32 (rt rd : Reg) (sa : BitVec 5) : Statement (.dsrl32 rt rd sa) :=
  maskR_FC00003F 0x00#6 0x00#5 rt rd sa 0x3E#6
theorem dsra32 (rt rd : Reg) (sa : BitVec 5) : Statement (.dsra32 rt rd sa) :=
  maskR_FC00003F 0x00#6 0x00#5 rt rd sa 0x3F#6
theorem dsllv (rs rt rd : Reg) : Statement (.dsllv rs rt rd) :=
  maskR_FC00003F 0x00#6 rs rt rd 0x00#5 0x14#6
theorem dsrlv (rs rt rd : Reg) : Statement (.dsrlv rs rt rd) :=
  maskR_FC00003F 0x00#6 rs rt rd 0x00#5 0x16#6
theorem dsrav (rs rt rd : Reg) : Statement (.dsrav rs rt rd) :=
  maskR_FC00003F 0x00#6 rs rt rd 0x00#5 0x17#6
theorem mfhi (rd : Reg) : Statement (.mfhi rd) :=
  maskR_FC00003F 0x00#6 0x00#5 0x00#5 rd 0x00#5 0x10#6
theorem mthi (rs : Reg) : Statement (.mthi rs) :=
  maskR_FC00003F 0x00#6 rs 0x00#5 0x00#5 0x00#5 0x11#6
theorem mflo (rd : Reg) : Statement (.mflo rd) :=
  maskR_FC00003F 0x00#6 0x00#5 0x00#5 rd 0x00#5 0x12#6
theorem mtlo (rs : Reg) : Statement (.mtlo rs) :=
  maskR_FC00003F 0x00#6 rs 0x00#5 0x00#5 0x00#5 0x13#6
theorem mult (rs rt : Reg) : Statement (.mult rs rt) :=
  maskR_FC00003F 0x00#6 rs rt 0x00#5 0x00#5 0x18#6
theorem multu (rs rt : Reg) : Statement (.multu rs rt) :=
  maskR_FC00003F 0x00#6 rs rt 0x00#5 0x00#5 0x19#6
theorem dmult (rs rt : Reg) : Statement (.dmult rs rt) :=
  maskR_FC00003F 0x00#6 rs rt 0x00#5 0x00#5 0x1C#6
theorem dmultu (rs rt : Reg) : Statement (.dmultu rs rt) :=
  maskR_FC00003F 0x00#6 rs rt 0x00#5 0x00#5 0x1D#6
theorem div (rs rt : Reg) : Statement (.div rs rt) :=
  maskR_FC00003F 0x00#6 rs rt 0x00#5 0x00#5 0x1A#6
theorem divu (rs rt : Reg) : Statement (.divu rs rt) :=
  maskR_FC00003F 0x00#6 rs rt 0x00#5 0x00#5 0x1B#6
theorem ddiv (rs rt : Reg) : Statement (.ddiv rs rt) :=
  maskR_FC00003F 0x00#6 rs rt 0x00#5 0x00#5 0x1E#6
theorem ddivu (rs rt : Reg) : Statement (.ddivu rs rt) :=
  maskR_FC00003F 0x00#6 rs rt 0x00#5 0x00#5 0x1F#6
theorem beq (rs rt : Reg) (offset : Imm) : Statement (.beq rs rt offset) :=
  maskI_FC000000 0x04#6 rs rt offset
theorem bne (rs rt : Reg) (offset : Imm) : Statement (.bne rs rt offset) :=
  maskI_FC000000 0x05#6 rs rt offset
theorem blez (rs : Reg) (offset : Imm) : Statement (.blez rs offset) :=
  maskI_FC000000 0x06#6 rs 0x00#5 offset
theorem bgtz (rs : Reg) (offset : Imm) : Statement (.bgtz rs offset) :=
  maskI_FC000000 0x07#6 rs 0x00#5 offset
theorem bltz (rs : Reg) (offset : Imm) : Statement (.bltz rs offset) :=
  maskI_FC1F0000 0x01#6 rs 0x00#5 offset
theorem bgez (rs : Reg) (offset : Imm) : Statement (.bgez rs offset) :=
  maskI_FC1F0000 0x01#6 rs 0x01#5 offset
theorem bltzal (rs : Reg) (offset : Imm) : Statement (.bltzal rs offset) :=
  maskI_FC1F0000 0x01#6 rs 0x10#5 offset
theorem bgezal (rs : Reg) (offset : Imm) : Statement (.bgezal rs offset) :=
  maskI_FC1F0000 0x01#6 rs 0x11#5 offset
theorem beql (rs rt : Reg) (offset : Imm) : Statement (.beql rs rt offset) :=
  maskI_FC000000 0x14#6 rs rt offset
theorem bnel (rs rt : Reg) (offset : Imm) : Statement (.bnel rs rt offset) :=
  maskI_FC000000 0x15#6 rs rt offset
theorem blezl (rs : Reg) (offset : Imm) : Statement (.blezl rs offset) :=
  maskI_FC000000 0x16#6 rs 0x00#5 offset
theorem bgtzl (rs : Reg) (offset : Imm) : Statement (.bgtzl rs offset) :=
  maskI_FC000000 0x17#6 rs 0x00#5 offset
theorem bltzl (rs : Reg) (offset : Imm) : Statement (.bltzl rs offset) :=
  maskI_FC1F0000 0x01#6 rs 0x02#5 offset
theorem bgezl (rs : Reg) (offset : Imm) : Statement (.bgezl rs offset) :=
  maskI_FC1F0000 0x01#6 rs 0x03#5 offset
theorem bltzall (rs : Reg) (offset : Imm) : Statement (.bltzall rs offset) :=
  maskI_FC1F0000 0x01#6 rs 0x12#5 offset
theorem bgezall (rs : Reg) (offset : Imm) : Statement (.bgezall rs offset) :=
  maskI_FC1F0000 0x01#6 rs 0x13#5 offset
theorem j (index : BitVec 26) : Statement (.j index) :=
  maskJ_FC000000 0x02#6 index
theorem jal (index : BitVec 26) : Statement (.jal index) :=
  maskJ_FC000000 0x03#6 index
theorem jr (rs : Reg) : Statement (.jr rs) :=
  maskR_FC00003F 0x00#6 rs 0x00#5 0x00#5 0x00#5 0x08#6
theorem jalr (rs rd : Reg) : Statement (.jalr rs rd) :=
  maskR_FC00003F 0x00#6 rs 0x00#5 rd 0x00#5 0x09#6
theorem lb (base rt : Reg) (offset : Imm) : Statement (.lb base rt offset) :=
  maskI_FC000000 0x20#6 base rt offset
theorem lbu (base rt : Reg) (offset : Imm) : Statement (.lbu base rt offset) :=
  maskI_FC000000 0x24#6 base rt offset
theorem lh (base rt : Reg) (offset : Imm) : Statement (.lh base rt offset) :=
  maskI_FC000000 0x21#6 base rt offset
theorem lhu (base rt : Reg) (offset : Imm) : Statement (.lhu base rt offset) :=
  maskI_FC000000 0x25#6 base rt offset
theorem lw (base rt : Reg) (offset : Imm) : Statement (.lw base rt offset) :=
  maskI_FC000000 0x23#6 base rt offset
theorem lwu (base rt : Reg) (offset : Imm) : Statement (.lwu base rt offset) :=
  maskI_FC000000 0x27#6 base rt offset
theorem ld (base rt : Reg) (offset : Imm) : Statement (.ld base rt offset) :=
  maskI_FC000000 0x37#6 base rt offset
theorem lwl (base rt : Reg) (offset : Imm) : Statement (.lwl base rt offset) :=
  maskI_FC000000 0x22#6 base rt offset
theorem lwr (base rt : Reg) (offset : Imm) : Statement (.lwr base rt offset) :=
  maskI_FC000000 0x26#6 base rt offset
theorem ldl (base rt : Reg) (offset : Imm) : Statement (.ldl base rt offset) :=
  maskI_FC000000 0x1A#6 base rt offset
theorem ldr (base rt : Reg) (offset : Imm) : Statement (.ldr base rt offset) :=
  maskI_FC000000 0x1B#6 base rt offset
theorem sb (base rt : Reg) (offset : Imm) : Statement (.sb base rt offset) :=
  maskI_FC000000 0x28#6 base rt offset
theorem sh (base rt : Reg) (offset : Imm) : Statement (.sh base rt offset) :=
  maskI_FC000000 0x29#6 base rt offset
theorem sw (base rt : Reg) (offset : Imm) : Statement (.sw base rt offset) :=
  maskI_FC000000 0x2B#6 base rt offset
theorem sd (base rt : Reg) (offset : Imm) : Statement (.sd base rt offset) :=
  maskI_FC000000 0x3F#6 base rt offset
theorem ll (base rt : Reg) (offset : Imm) : Statement (.ll base rt offset) :=
  maskI_FC000000 0x30#6 base rt offset
theorem lld (base rt : Reg) (offset : Imm) : Statement (.lld base rt offset) :=
  maskI_FC000000 0x34#6 base rt offset
theorem sc (base rt : Reg) (offset : Imm) : Statement (.sc base rt offset) :=
  maskI_FC000000 0x38#6 base rt offset
theorem scd (base rt : Reg) (offset : Imm) : Statement (.scd base rt offset) :=
  maskI_FC000000 0x3C#6 base rt offset
theorem swl (base rt : Reg) (offset : Imm) : Statement (.swl base rt offset) :=
  maskI_FC000000 0x2A#6 base rt offset
theorem swr (base rt : Reg) (offset : Imm) : Statement (.swr base rt offset) :=
  maskI_FC000000 0x2E#6 base rt offset
theorem sdl (base rt : Reg) (offset : Imm) : Statement (.sdl base rt offset) :=
  maskI_FC000000 0x2C#6 base rt offset
theorem sdr (base rt : Reg) (offset : Imm) : Statement (.sdr base rt offset) :=
  maskI_FC000000 0x2D#6 base rt offset
theorem syscall (code : BitVec 20) : Statement (.syscall code) :=
  maskCode_FC00003F code 0x0C#6
theorem brk (code : BitVec 20) : Statement (.brk code) :=
  maskCode_FC00003F code 0x0D#6
theorem tge (rs rt : Reg) (code : BitVec 10) : Statement (.tge rs rt code) :=
  maskTcode_FC00003F rs rt code 0x30#6
theorem tgeu (rs rt : Reg) (code : BitVec 10) : Statement (.tgeu rs rt code) :=
  maskTcode_FC00003F rs rt code 0x31#6
theorem tlt (rs rt : Reg) (code : BitVec 10) : Statement (.tlt rs rt code) :=
  maskTcode_FC00003F rs rt code 0x32#6
theorem tltu (rs rt : Reg) (code : BitVec 10) : Statement (.tltu rs rt code) :=
  maskTcode_FC00003F rs rt code 0x33#6
theorem teq (rs rt : Reg) (code : BitVec 10) : Statement (.teq rs rt code) :=
  maskTcode_FC00003F rs rt code 0x34#6
theorem tne (rs rt : Reg) (code : BitVec 10) : Statement (.tne rs rt code) :=
  maskTcode_FC00003F rs rt code 0x36#6
theorem tgei (rs : Reg) (imm : Imm) : Statement (.tgei rs imm) :=
  maskI_FC1F0000 0x01#6 rs 0x08#5 imm
theorem tgeiu (rs : Reg) (imm : Imm) : Statement (.tgeiu rs imm) :=
  maskI_FC1F0000 0x01#6 rs 0x09#5 imm
theorem tlti (rs : Reg) (imm : Imm) : Statement (.tlti rs imm) :=
  maskI_FC1F0000 0x01#6 rs 0x0A#5 imm
theorem tltiu (rs : Reg) (imm : Imm) : Statement (.tltiu rs imm) :=
  maskI_FC1F0000 0x01#6 rs 0x0B#5 imm
theorem teqi (rs : Reg) (imm : Imm) : Statement (.teqi rs imm) :=
  maskI_FC1F0000 0x01#6 rs 0x0C#5 imm
theorem tnei (rs : Reg) (imm : Imm) : Statement (.tnei rs imm) :=
  maskI_FC1F0000 0x01#6 rs 0x0E#5 imm
theorem sync (stype : BitVec 5) : Statement (.sync stype) :=
  maskR_FC00003F 0x00#6 0x00#5 0x00#5 0x00#5 stype 0x0F#6
theorem cache (base : Reg) (op : BitVec 5) (offset : Imm) : Statement (.cache base op offset) :=
  maskI_FC000000 0x2F#6 base op offset
theorem mfc0 (rt rd : Reg) : Statement (.mfc0 rt rd) :=
  maskR_FFE00000 0x10#6 0x00#5 rt rd 0x00#5 0x00#6
theorem dmfc0 (rt rd : Reg) : Statement (.dmfc0 rt rd) :=
  maskR_FFE00000 0x10#6 0x01#5 rt rd 0x00#5 0x00#6
theorem mtc0 (rt rd : Reg) : Statement (.mtc0 rt rd) :=
  maskR_FFE00000 0x10#6 0x04#5 rt rd 0x00#5 0x00#6
theorem dmtc0 (rt rd : Reg) : Statement (.dmtc0 rt rd) :=
  maskR_FFE00000 0x10#6 0x05#5 rt rd 0x00#5 0x00#6
theorem tlbwi : Statement .tlbwi :=
  maskR_FE00003F 0x10#6 0x10#5 0x00#5 0x00#5 0x00#5 0x02#6
theorem tlbwr : Statement .tlbwr :=
  maskR_FE00003F 0x10#6 0x10#5 0x00#5 0x00#5 0x00#5 0x06#6
theorem tlbr : Statement .tlbr :=
  maskR_FE00003F 0x10#6 0x10#5 0x00#5 0x00#5 0x00#5 0x01#6
theorem tlbp : Statement .tlbp :=
  maskR_FE00003F 0x10#6 0x10#5 0x00#5 0x00#5 0x00#5 0x08#6
theorem eret : Statement .eret :=
  maskR_FE00003F 0x10#6 0x10#5 0x00#5 0x00#5 0x00#5 0x18#6
theorem cfc1 (rt fs : Reg) : Statement (.cfc1 rt fs) :=
  maskR_FFE00000 0x11#6 0x02#5 rt fs 0x00#5 0x00#6
theorem ctc1 (rt fs : Reg) : Statement (.ctc1 rt fs) :=
  maskR_FFE00000 0x11#6 0x06#5 rt fs 0x00#5 0x00#6
theorem mfc1 (rt fs : Reg) : Statement (.mfc1 rt fs) :=
  maskR_FFE00000 0x11#6 0x00#5 rt fs 0x00#5 0x00#6
theorem dmfc1 (rt fs : Reg) : Statement (.dmfc1 rt fs) :=
  maskR_FFE00000 0x11#6 0x01#5 rt fs 0x00#5 0x00#6
theorem mtc1 (rt fs : Reg) : Statement (.mtc1 rt fs) :=
  maskR_FFE00000 0x11#6 0x04#5 rt fs 0x00#5 0x00#6
theorem dmtc1 (rt fs : Reg) : Statement (.dmtc1 rt fs) :=
  maskR_FFE00000 0x11#6 0x05#5 rt fs 0x00#5 0x00#6
theorem bc1f (offset : Imm) : Statement (.bc1f offset) :=
  maskI_FFE30000 0x11#6 0x08#5 0x00#5 offset
theorem bc1t (offset : Imm) : Statement (.bc1t offset) :=
  maskI_FFE30000 0x11#6 0x08#5 0x01#5 offset
theorem bc1fl (offset : Imm) : Statement (.bc1fl offset) :=
  maskI_FFE30000 0x11#6 0x08#5 0x02#5 offset
theorem bc1tl (offset : Imm) : Statement (.bc1tl offset) :=
  maskI_FFE30000 0x11#6 0x08#5 0x03#5 offset
theorem lwc1 (base ft : Reg) (offset : Imm) : Statement (.lwc1 base ft offset) :=
  maskI_FC000000 0x31#6 base ft offset
theorem ldc1 (base ft : Reg) (offset : Imm) : Statement (.ldc1 base ft offset) :=
  maskI_FC000000 0x35#6 base ft offset
theorem swc1 (base ft : Reg) (offset : Imm) : Statement (.swc1 base ft offset) :=
  maskI_FC000000 0x39#6 base ft offset
theorem sdc1 (base ft : Reg) (offset : Imm) : Statement (.sdc1 base ft offset) :=
  maskI_FC000000 0x3D#6 base ft offset
theorem fpComputeS (ft fs fd : Reg) (funct : BitVec 6) : Statement (.fpComputeS ft fs fd funct) :=
  maskR_FFE00000 0x11#6 0x10#5 ft fs fd funct
theorem fpComputeD (ft fs fd : Reg) (funct : BitVec 6) : Statement (.fpComputeD ft fs fd funct) :=
  maskR_FFE00000 0x11#6 0x11#5 ft fs fd funct
theorem fpComputeW (ft fs fd : Reg) (funct : BitVec 6) : Statement (.fpComputeW ft fs fd funct) :=
  maskR_FFE00000 0x11#6 0x14#5 ft fs fd funct
theorem fpComputeL (ft fs fd : Reg) (funct : BitVec 6) : Statement (.fpComputeL ft fs fd funct) :=
  maskR_FFE00000 0x11#6 0x15#5 ft fs fd funct

end Sys2Proof.Laws.EncodingFitsTable
end

