-- ==== Sys2Proof/Tests/Slice0.lean ====
section
/-! SUPPORT. The model's own tests: ill-formed terms, decoding of words laid out by the spec's encodings, the vectors of
spec/95_test_vectors.md (one step each), and witnesses that the hypotheses of the statements can be met. -/

namespace Sys2Proof.Tests

set_option Elab.async false

open Sys2Proof.Machine

/-! ## Well-formedness: one ill-formed term for each check (R365, R382) -/

theorem test_mfc0_ill : (Instr.mfc0 8#5 7#5).wellFormed = false := by decide
theorem test_dmfc0_ill : (Instr.dmfc0 8#5 21#5).wellFormed = false := by decide
theorem test_mtc0_ill : (Instr.mtc0 8#5 31#5).wellFormed = false := by decide
theorem test_dmtc0_ill : (Instr.dmtc0 8#5 29#5).wellFormed = false := by decide
theorem test_cfc1_ill : (Instr.cfc1 8#5 5#5).wellFormed = false := by decide
theorem test_ctc1_ill : (Instr.ctc1 8#5 0#5).wellFormed = false := by decide
theorem test_well_formed : (Instr.mfc0 8#5 30#5).wellFormed = true ∧ (Instr.cfc1 8#5 31#5).wellFormed = true ∧
    (Instr.ctc1 8#5 31#5).wellFormed = true := by decide

/-! ## Decoding: a word for every constructor, laid out field by field from R162 and R169 to R173 -/

theorem test_decode_alu_1 :
    decode 0b000000_00011_10001_11100_00000_100000#32 = .ok (.add 3#5 17#5 28#5) ∧
    decode 0b000000_00011_10001_11100_00000_100001#32 = .ok (.addu 3#5 17#5 28#5) ∧
    decode 0b000000_00011_10001_11100_00000_100010#32 = .ok (.sub 3#5 17#5 28#5) ∧
    decode 0b000000_00011_10001_11100_00000_100011#32 = .ok (.subu 3#5 17#5 28#5) ∧
    decode 0b001000_00011_10001_1000000000000001#32 = .ok (.addi 3#5 17#5 0x8001#16) ∧
    decode 0b001001_00011_10001_1000000000000001#32 = .ok (.addiu 3#5 17#5 0x8001#16) ∧
    decode 0b000000_00011_10001_11100_00000_101100#32 = .ok (.dadd 3#5 17#5 28#5) ∧
    decode 0b000000_00011_10001_11100_00000_101101#32 = .ok (.daddu 3#5 17#5 28#5) ∧
    decode 0b000000_00011_10001_11100_00000_101110#32 = .ok (.dsub 3#5 17#5 28#5) ∧
    decode 0b000000_00011_10001_11100_00000_101111#32 = .ok (.dsubu 3#5 17#5 28#5) ∧
    decode 0b011000_00011_10001_1000000000000001#32 = .ok (.daddi 3#5 17#5 0x8001#16) ∧
    decode 0b011001_00011_10001_1000000000000001#32 = .ok (.daddiu 3#5 17#5 0x8001#16) ∧
    decode 0b000000_00011_10001_11100_00000_101010#32 = .ok (.slt 3#5 17#5 28#5) ∧
    decode 0b000000_00011_10001_11100_00000_101011#32 = .ok (.sltu 3#5 17#5 28#5) := by decide +kernel

theorem test_decode_alu_2 :
    decode 0b001010_00011_10001_1000000000000001#32 = .ok (.slti 3#5 17#5 0x8001#16) ∧
    decode 0b001011_00011_10001_1000000000000001#32 = .ok (.sltiu 3#5 17#5 0x8001#16) ∧
    decode 0b000000_00011_10001_11100_00000_100100#32 = .ok (.and 3#5 17#5 28#5) ∧
    decode 0b000000_00011_10001_11100_00000_100101#32 = .ok (.or 3#5 17#5 28#5) ∧
    decode 0b000000_00011_10001_11100_00000_100110#32 = .ok (.xor 3#5 17#5 28#5) ∧
    decode 0b000000_00011_10001_11100_00000_100111#32 = .ok (.nor 3#5 17#5 28#5) ∧
    decode 0b001100_00011_10001_1000000000000001#32 = .ok (.andi 3#5 17#5 0x8001#16) ∧
    decode 0b001101_00011_10001_1000000000000001#32 = .ok (.ori 3#5 17#5 0x8001#16) ∧
    decode 0b001110_00011_10001_1000000000000001#32 = .ok (.xori 3#5 17#5 0x8001#16) ∧
    decode 0b001111_00000_00011_1000000000000001#32 = .ok (.lui 3#5 0x8001#16) := by decide +kernel

theorem test_decode_shift_1 :
    decode 0b000000_00000_00011_10001_11100_000000#32 = .ok (.sll 3#5 17#5 28#5) ∧
    decode 0b000000_00000_00011_10001_11100_000010#32 = .ok (.srl 3#5 17#5 28#5) ∧
    decode 0b000000_00000_00011_10001_11100_000011#32 = .ok (.sra 3#5 17#5 28#5) ∧
    decode 0b000000_00011_10001_11100_00000_000100#32 = .ok (.sllv 3#5 17#5 28#5) ∧
    decode 0b000000_00011_10001_11100_00000_000110#32 = .ok (.srlv 3#5 17#5 28#5) ∧
    decode 0b000000_00011_10001_11100_00000_000111#32 = .ok (.srav 3#5 17#5 28#5) ∧
    decode 0b000000_00000_00011_10001_11100_111000#32 = .ok (.dsll 3#5 17#5 28#5) ∧
    decode 0b000000_00000_00011_10001_11100_111010#32 = .ok (.dsrl 3#5 17#5 28#5) ∧
    decode 0b000000_00000_00011_10001_11100_111011#32 = .ok (.dsra 3#5 17#5 28#5) ∧
    decode 0b000000_00000_00011_10001_11100_111100#32 = .ok (.dsll32 3#5 17#5 28#5) ∧
    decode 0b000000_00000_00011_10001_11100_111110#32 = .ok (.dsrl32 3#5 17#5 28#5) ∧
    decode 0b000000_00000_00011_10001_11100_111111#32 = .ok (.dsra32 3#5 17#5 28#5) ∧
    decode 0b000000_00011_10001_11100_00000_010100#32 = .ok (.dsllv 3#5 17#5 28#5) ∧
    decode 0b000000_00011_10001_11100_00000_010110#32 = .ok (.dsrlv 3#5 17#5 28#5) := by decide +kernel

theorem test_decode_shift_2 :
    decode 0b000000_00011_10001_11100_00000_010111#32 = .ok (.dsrav 3#5 17#5 28#5) := by decide +kernel

theorem test_decode_muldiv :
    decode 0b000000_00000_00000_00011_00000_010000#32 = .ok (.mfhi 3#5) ∧
    decode 0b000000_00011_00000_00000_00000_010001#32 = .ok (.mthi 3#5) ∧
    decode 0b000000_00000_00000_00011_00000_010010#32 = .ok (.mflo 3#5) ∧
    decode 0b000000_00011_00000_00000_00000_010011#32 = .ok (.mtlo 3#5) ∧
    decode 0b000000_00011_10001_00000_00000_011000#32 = .ok (.mult 3#5 17#5) ∧
    decode 0b000000_00011_10001_00000_00000_011001#32 = .ok (.multu 3#5 17#5) ∧
    decode 0b000000_00011_10001_00000_00000_011100#32 = .ok (.dmult 3#5 17#5) ∧
    decode 0b000000_00011_10001_00000_00000_011101#32 = .ok (.dmultu 3#5 17#5) ∧
    decode 0b000000_00011_10001_00000_00000_011010#32 = .ok (.div 3#5 17#5) ∧
    decode 0b000000_00011_10001_00000_00000_011011#32 = .ok (.divu 3#5 17#5) ∧
    decode 0b000000_00011_10001_00000_00000_011110#32 = .ok (.ddiv 3#5 17#5) ∧
    decode 0b000000_00011_10001_00000_00000_011111#32 = .ok (.ddivu 3#5 17#5) := by decide +kernel

theorem test_decode_branch_1 :
    decode 0b000100_00011_10001_1000000000000001#32 = .ok (.beq 3#5 17#5 0x8001#16) ∧
    decode 0b000101_00011_10001_1000000000000001#32 = .ok (.bne 3#5 17#5 0x8001#16) ∧
    decode 0b000110_00011_00000_1000000000000001#32 = .ok (.blez 3#5 0x8001#16) ∧
    decode 0b000111_00011_00000_1000000000000001#32 = .ok (.bgtz 3#5 0x8001#16) ∧
    decode 0b000001_00011_00000_1000000000000001#32 = .ok (.bltz 3#5 0x8001#16) ∧
    decode 0b000001_00011_00001_1000000000000001#32 = .ok (.bgez 3#5 0x8001#16) ∧
    decode 0b000001_00011_10000_1000000000000001#32 = .ok (.bltzal 3#5 0x8001#16) ∧
    decode 0b000001_00011_10001_1000000000000001#32 = .ok (.bgezal 3#5 0x8001#16) ∧
    decode 0b010100_00011_10001_1000000000000001#32 = .ok (.beql 3#5 17#5 0x8001#16) ∧
    decode 0b010101_00011_10001_1000000000000001#32 = .ok (.bnel 3#5 17#5 0x8001#16) ∧
    decode 0b010110_00011_00000_1000000000000001#32 = .ok (.blezl 3#5 0x8001#16) ∧
    decode 0b010111_00011_00000_1000000000000001#32 = .ok (.bgtzl 3#5 0x8001#16) ∧
    decode 0b000001_00011_00010_1000000000000001#32 = .ok (.bltzl 3#5 0x8001#16) ∧
    decode 0b000001_00011_00011_1000000000000001#32 = .ok (.bgezl 3#5 0x8001#16) := by decide +kernel

theorem test_decode_branch_2 :
    decode 0b000001_00011_10010_1000000000000001#32 = .ok (.bltzall 3#5 0x8001#16) ∧
    decode 0b000001_00011_10011_1000000000000001#32 = .ok (.bgezall 3#5 0x8001#16) ∧
    decode 0b000010_10101010101010101010100101#32 = .ok (.j 0x2AAAAA5#26) ∧
    decode 0b000011_10101010101010101010100101#32 = .ok (.jal 0x2AAAAA5#26) ∧
    decode 0b000000_00011_00000_00000_00000_001000#32 = .ok (.jr 3#5) ∧
    decode 0b000000_00011_00000_10001_00000_001001#32 = .ok (.jalr 3#5 17#5) := by decide +kernel

theorem test_decode_load :
    decode 0b100000_00011_10001_1000000000000001#32 = .ok (.lb 3#5 17#5 0x8001#16) ∧
    decode 0b100100_00011_10001_1000000000000001#32 = .ok (.lbu 3#5 17#5 0x8001#16) ∧
    decode 0b100001_00011_10001_1000000000000001#32 = .ok (.lh 3#5 17#5 0x8001#16) ∧
    decode 0b100101_00011_10001_1000000000000001#32 = .ok (.lhu 3#5 17#5 0x8001#16) ∧
    decode 0b100011_00011_10001_1000000000000001#32 = .ok (.lw 3#5 17#5 0x8001#16) ∧
    decode 0b100111_00011_10001_1000000000000001#32 = .ok (.lwu 3#5 17#5 0x8001#16) ∧
    decode 0b110111_00011_10001_1000000000000001#32 = .ok (.ld 3#5 17#5 0x8001#16) ∧
    decode 0b100010_00011_10001_1000000000000001#32 = .ok (.lwl 3#5 17#5 0x8001#16) ∧
    decode 0b100110_00011_10001_1000000000000001#32 = .ok (.lwr 3#5 17#5 0x8001#16) ∧
    decode 0b011010_00011_10001_1000000000000001#32 = .ok (.ldl 3#5 17#5 0x8001#16) ∧
    decode 0b011011_00011_10001_1000000000000001#32 = .ok (.ldr 3#5 17#5 0x8001#16) ∧
    decode 0b110000_00011_10001_1000000000000001#32 = .ok (.ll 3#5 17#5 0x8001#16) ∧
    decode 0b110100_00011_10001_1000000000000001#32 = .ok (.lld 3#5 17#5 0x8001#16) := by decide +kernel

theorem test_decode_store :
    decode 0b101000_00011_10001_1000000000000001#32 = .ok (.sb 3#5 17#5 0x8001#16) ∧
    decode 0b101001_00011_10001_1000000000000001#32 = .ok (.sh 3#5 17#5 0x8001#16) ∧
    decode 0b101011_00011_10001_1000000000000001#32 = .ok (.sw 3#5 17#5 0x8001#16) ∧
    decode 0b111111_00011_10001_1000000000000001#32 = .ok (.sd 3#5 17#5 0x8001#16) ∧
    decode 0b111000_00011_10001_1000000000000001#32 = .ok (.sc 3#5 17#5 0x8001#16) ∧
    decode 0b111100_00011_10001_1000000000000001#32 = .ok (.scd 3#5 17#5 0x8001#16) ∧
    decode 0b101010_00011_10001_1000000000000001#32 = .ok (.swl 3#5 17#5 0x8001#16) ∧
    decode 0b101110_00011_10001_1000000000000001#32 = .ok (.swr 3#5 17#5 0x8001#16) ∧
    decode 0b101100_00011_10001_1000000000000001#32 = .ok (.sdl 3#5 17#5 0x8001#16) ∧
    decode 0b101101_00011_10001_1000000000000001#32 = .ok (.sdr 3#5 17#5 0x8001#16) := by decide +kernel

theorem test_decode_trap_1 :
    decode 0b000000_10101011110011011110_001100#32 = .ok (.syscall 0xABCDE#20) ∧
    decode 0b000000_10101011110011011110_001101#32 = .ok (.brk 0xABCDE#20) ∧
    decode 0b000000_00011_10001_1011000101_110000#32 = .ok (.tge 3#5 17#5 0x2C5#10) ∧
    decode 0b000000_00011_10001_1011000101_110001#32 = .ok (.tgeu 3#5 17#5 0x2C5#10) ∧
    decode 0b000000_00011_10001_1011000101_110010#32 = .ok (.tlt 3#5 17#5 0x2C5#10) ∧
    decode 0b000000_00011_10001_1011000101_110011#32 = .ok (.tltu 3#5 17#5 0x2C5#10) ∧
    decode 0b000000_00011_10001_1011000101_110100#32 = .ok (.teq 3#5 17#5 0x2C5#10) ∧
    decode 0b000000_00011_10001_1011000101_110110#32 = .ok (.tne 3#5 17#5 0x2C5#10) ∧
    decode 0b000001_00011_01000_1000000000000001#32 = .ok (.tgei 3#5 0x8001#16) ∧
    decode 0b000001_00011_01001_1000000000000001#32 = .ok (.tgeiu 3#5 0x8001#16) ∧
    decode 0b000001_00011_01010_1000000000000001#32 = .ok (.tlti 3#5 0x8001#16) ∧
    decode 0b000001_00011_01011_1000000000000001#32 = .ok (.tltiu 3#5 0x8001#16) ∧
    decode 0b000001_00011_01100_1000000000000001#32 = .ok (.teqi 3#5 0x8001#16) ∧
    decode 0b000001_00011_01110_1000000000000001#32 = .ok (.tnei 3#5 0x8001#16) := by decide +kernel

theorem test_decode_trap_2 :
    decode 0b000000_00000_00000_00000_00011_001111#32 = .ok (.sync 3#5) ∧
    decode 0b101111_00011_10001_1000000000000001#32 = .ok (.cache 3#5 17#5 0x8001#16) := by decide +kernel

theorem test_decode_cop0 :
    decode 0b010000_00000_00011_10001_00000_000000#32 = .ok (.mfc0 3#5 17#5) ∧
    decode 0b010000_00001_00011_10001_00000_000000#32 = .ok (.dmfc0 3#5 17#5) ∧
    decode 0b010000_00100_00011_10001_00000_000000#32 = .ok (.mtc0 3#5 17#5) ∧
    decode 0b010000_00101_00011_10001_00000_000000#32 = .ok (.dmtc0 3#5 17#5) ∧
    decode 0b010000_10000_00000_00000_00000_000010#32 = .ok .tlbwi ∧
    decode 0b010000_10000_00000_00000_00000_000110#32 = .ok .tlbwr ∧
    decode 0b010000_10000_00000_00000_00000_000001#32 = .ok .tlbr ∧
    decode 0b010000_10000_00000_00000_00000_001000#32 = .ok .tlbp ∧
    decode 0b010000_10000_00000_00000_00000_011000#32 = .ok .eret := by decide +kernel

theorem test_decode_cop1_1 :
    decode 0b010001_00010_00011_10001_00000_000000#32 = .ok (.cfc1 3#5 17#5) ∧
    decode 0b010001_00110_00011_10001_00000_000000#32 = .ok (.ctc1 3#5 17#5) ∧
    decode 0b010001_00000_00011_10001_00000_000000#32 = .ok (.mfc1 3#5 17#5) ∧
    decode 0b010001_00001_00011_10001_00000_000000#32 = .ok (.dmfc1 3#5 17#5) ∧
    decode 0b010001_00100_00011_10001_00000_000000#32 = .ok (.mtc1 3#5 17#5) ∧
    decode 0b010001_00101_00011_10001_00000_000000#32 = .ok (.dmtc1 3#5 17#5) ∧
    decode 0b010001_01000_00000_1000000000000001#32 = .ok (.bc1f 0x8001#16) ∧
    decode 0b010001_01000_00001_1000000000000001#32 = .ok (.bc1t 0x8001#16) ∧
    decode 0b010001_01000_00010_1000000000000001#32 = .ok (.bc1fl 0x8001#16) ∧
    decode 0b010001_01000_00011_1000000000000001#32 = .ok (.bc1tl 0x8001#16) ∧
    decode 0b110001_00011_10001_1000000000000001#32 = .ok (.lwc1 3#5 17#5 0x8001#16) ∧
    decode 0b110101_00011_10001_1000000000000001#32 = .ok (.ldc1 3#5 17#5 0x8001#16) ∧
    decode 0b111001_00011_10001_1000000000000001#32 = .ok (.swc1 3#5 17#5 0x8001#16) ∧
    decode 0b111101_00011_10001_1000000000000001#32 = .ok (.sdc1 3#5 17#5 0x8001#16) := by decide +kernel

theorem test_decode_cop1_2 :
    decode 0b010001_10000_00011_10001_11100_101010#32 = .ok (.fpComputeS 3#5 17#5 28#5 0x2A#6) ∧
    decode 0b010001_10001_00011_10001_11100_101010#32 = .ok (.fpComputeD 3#5 17#5 28#5 0x2A#6) ∧
    decode 0b010001_10100_00011_10001_11100_101010#32 = .ok (.fpComputeW 3#5 17#5 28#5 0x2A#6) ∧
    decode 0b010001_10101_00011_10001_11100_101010#32 = .ok (.fpComputeL 3#5 17#5 28#5 0x2A#6) := by decide +kernel

/-! ## Helpers: a small state at the dispatch of an instruction at `P`, and what an outcome holds -/

def P : Dword := 0xFFFFFFFF80000100#64

/-- Physical 0x1000, in kseg0 (spec/95_test_vectors.md, notation). -/
def A : Dword := 0xFFFFFFFF80001000#64

/-- General registers zero but for the list; the instruction at `P` is executing and not in a delay slot. -/
def at_P (l : List (Reg × Dword)) : State :=
  setBootGprs l { State.reset with
    gprs := Vector.replicate 32 0#64, prevPc := P, pc := 0xFFFFFFFF80000104#64, nextPc := 0xFFFFFFFF80000108#64
    inputs := { Inputs.reset with rdram := .mib4 } }

/-- The 16 bytes of memory `A`. -/
def memA : Memory := [(0x1000, 0x11#8), (0x1001, 0x22#8), (0x1002, 0x33#8), (0x1003, 0x44#8), (0x1004, 0x55#8), (0x1005, 0x66#8),
  (0x1006, 0x77#8), (0x1007, 0x88#8), (0x1008, 0x99#8), (0x1009, 0xAA#8), (0x100A, 0xBB#8), (0x100B, 0xCC#8), (0x100C, 0xDD#8),
  (0x100D, 0xEE#8), (0x100E, 0xFF#8)]

/-- Register 4 holds `A`, register 8 the value, and memory `A` is in place. -/
def at_A (t0 : Dword) : State := { at_P [(4#5, A), (8#5, t0)] with mem := memA }

def setStatus (v : Word) (s : State) : State := { s with cop0 := { s.cop0 with status := v } }

/-- The user-mode Status of the vectors: KSU = 10, FR = 1. -/
def user : Word := 0x04000010#32

def reg (o : Out) (r : Reg) : Option Dword := match o with | .next t => some (t.gpr r) | _ => none
def hiLo (o : Out) : Option (Dword × Dword) := match o with | .next t => some (t.hi, t.lo) | _ => none
def pcs (o : Out) : Option (Dword × Dword × Bool) := match o with | .next t => some (t.pc, t.nextPc, t.delaySlot) | _ => none
def reason (o : Out) : Option FatalReason := match o with | .fault (.fatal r _) => some r | _ => none
def bytes8 (o : Out) : Option Dword := match o with | .next t => some (t.mem.readBE 0x1000 8) | _ => none
def fpr (o : Out) (r : Reg) : Option Dword := match o with | .next t => some (t.fgr r) | _ => none
def cop0Of (o : Out) : Option Cop0 := match o with | .next t => some t.cop0 | _ => none
/-- A next state that meets the condition. -/
def nextHas (o : Out) (f : State → Bool) : Bool := match o with | .next t => f t | _ => false

/-- A completed bus access whose value and state meet the condition. -/
def okHas {α : Type} (m : Res α) (f : α → State → Bool) : Bool := match m with | .ok v t => f v t | _ => false

/-- A Fatal bus access. -/
def fatalIs {α : Type} (m : Res α) (r : FatalReason) : Bool := match m with | .fatal x _ => x == r | _ => false

def nextIs (o : Out) (s : State) : Bool := match o with | .next t => decide (t = s) | _ => false

/-- An exception was entered at the general vector: EPC, Cause, BadVAddr. -/
def entered (o : Out) : Option (Dword × Word × Dword) :=
  match o with
  | .next t => if t.pc = 0xFFFFFFFF80000180#64 ∧ t.exl then some (t.cop0.epc, t.cop0.cause, t.cop0.badVAddr) else none
  | _ => none

/-! ## Integer arithmetic, logic and shifts (spec/95_test_vectors.md 1.2, 2.1) -/

theorem test_add_wraps_without_trap :
    reg (exec (.add 8#5 9#5 10#5) (at_P [(8#5, 0x000000007FFFFFFF#64), (9#5, 0x0000000000000001#64)])) 10#5
      = some 0xFFFFFFFF80000000#64 := by decide +kernel

theorem test_addu_adds_low_words :
    reg (exec (.addu 8#5 9#5 10#5) (at_P [(8#5, 0x1234567800000001#64), (9#5, 0x00000000FFFFFFFF#64)])) 10#5
      = some 0x0000000000000000#64 := by decide +kernel

theorem test_sub_wraps :
    reg (exec (.sub 8#5 9#5 10#5) (at_P [(8#5, 0x0000000000000000#64), (9#5, 0x0000000000000001#64)])) 10#5
      = some 0xFFFFFFFFFFFFFFFF#64 := by decide +kernel

theorem test_subu_sign_extends :
    reg (exec (.subu 8#5 9#5 10#5) (at_P [(8#5, 0xFFFFFFFF80000000#64), (9#5, 0x0000000000000001#64)])) 10#5
      = some 0x000000007FFFFFFF#64 := by decide +kernel

theorem test_addi_extends :
    reg (exec (.addi 8#5 9#5 0xFFFF#16) (at_P [(8#5, 0x0000000000000005#64)])) 9#5 = some 0x0000000000000004#64 ∧
    reg (exec (.addi 8#5 9#5 0x8000#16) (at_P [(8#5, 0x0000000000000000#64)])) 9#5 = some 0xFFFFFFFFFFFF8000#64 := by decide +kernel

theorem test_addiu_extends :
    reg (exec (.addiu 8#5 9#5 0x0001#16) (at_P [(8#5, 0x000000007FFFFFFF#64)])) 9#5 = some 0xFFFFFFFF80000000#64 ∧
    reg (exec (.addiu 8#5 9#5 0xFFFF#16) (at_P [(8#5, 0x0000000000000000#64)])) 9#5 = some 0xFFFFFFFFFFFFFFFF#64
      := by decide +kernel

theorem test_addiu_to_register_0 :
    reg (exec (.addiu 0#5 0#5 5#16) (at_P [])) 0#5 = some 0#64 := by decide +kernel

theorem test_dadd_dsub :
    reg (exec (.dadd 8#5 9#5 10#5) (at_P [(8#5, 0x7FFFFFFFFFFFFFFF#64), (9#5, 0x0000000000000001#64)])) 10#5
      = some 0x8000000000000000#64 ∧
    reg (exec (.daddu 8#5 9#5 10#5) (at_P [(8#5, 0xFFFFFFFFFFFFFFFF#64), (9#5, 0x0000000000000002#64)])) 10#5
      = some 0x0000000000000001#64 ∧
    reg (exec (.dsub 8#5 9#5 10#5) (at_P [(8#5, 0x0000000000000000#64), (9#5, 0x0000000000000001#64)])) 10#5
      = some 0xFFFFFFFFFFFFFFFF#64 ∧
    reg (exec (.dsubu 8#5 9#5 10#5) (at_P [(8#5, 0x8000000000000000#64), (9#5, 0x0000000000000001#64)])) 10#5
      = some 0x7FFFFFFFFFFFFFFF#64 := by decide +kernel

theorem test_daddi :
    reg (exec (.daddi 8#5 9#5 0x8000#16) (at_P [(8#5, 0x0000000000000000#64)])) 9#5 = some 0xFFFFFFFFFFFF8000#64 ∧
    reg (exec (.daddiu 8#5 9#5 0x8000#16) (at_P [(8#5, 0x0000000000010000#64)])) 9#5 = some 0x0000000000008000#64
      := by decide +kernel

theorem test_set_on_less :
    reg (exec (.slt 8#5 9#5 10#5) (at_P [(8#5, 0xFFFFFFFFFFFFFFFF#64), (9#5, 0x0000000000000001#64)])) 10#5
      = some 0x0000000000000001#64 ∧
    reg (exec (.sltu 8#5 9#5 10#5) (at_P [(8#5, 0xFFFFFFFFFFFFFFFF#64), (9#5, 0x0000000000000001#64)])) 10#5
      = some 0x0000000000000000#64 ∧
    reg (exec (.slti 8#5 9#5 0xFFFF#16) (at_P [(8#5, 0x0000000000000000#64)])) 9#5 = some 0x0000000000000000#64 ∧
    reg (exec (.sltiu 8#5 9#5 0xFFFF#16) (at_P [(8#5, 0x0000000000000005#64)])) 9#5 = some 0x0000000000000001#64
      := by decide +kernel

theorem test_logical :
    reg (exec (.and 8#5 9#5 10#5) (at_P [(8#5, 0x00FF00FF00FF00FF#64), (9#5, 0x0F0F0F0F0F0F0F0F#64)])) 10#5
      = some 0x000F000F000F000F#64 ∧
    reg (exec (.or 8#5 9#5 10#5) (at_P [(8#5, 0x00FF00FF00FF00FF#64), (9#5, 0x0F0F0F0F0F0F0F0F#64)])) 10#5
      = some 0x0FFF0FFF0FFF0FFF#64 ∧
    reg (exec (.xor 8#5 9#5 10#5) (at_P [(8#5, 0x00FF00FF00FF00FF#64), (9#5, 0x0F0F0F0F0F0F0F0F#64)])) 10#5
      = some 0x0FF00FF00FF00FF0#64 ∧
    reg (exec (.nor 8#5 9#5 10#5) (at_P [(8#5, 0x0000000000000000#64), (9#5, 0x0000000000000000#64)])) 10#5
      = some 0xFFFFFFFFFFFFFFFF#64 := by decide +kernel

theorem test_logical_immediate :
    reg (exec (.andi 8#5 9#5 0x8000#16) (at_P [(8#5, 0xFFFFFFFFFFFFFFFF#64)])) 9#5 = some 0x0000000000008000#64 ∧
    reg (exec (.ori 8#5 9#5 0xFFFF#16) (at_P [(8#5, 0x0000000000000000#64)])) 9#5 = some 0x000000000000FFFF#64 ∧
    reg (exec (.xori 8#5 9#5 0xFFFF#16) (at_P [(8#5, 0xFFFFFFFFFFFF0000#64)])) 9#5 = some 0xFFFFFFFFFFFFFFFF#64 := by decide +kernel

theorem test_lui :
    reg (exec (.lui 9#5 0x8000#16) (at_P [])) 9#5 = some 0xFFFFFFFF80000000#64 ∧
    reg (exec (.lui 9#5 0x7FFF#16) (at_P [])) 9#5 = some 0x7FFF0000#64 := by decide +kernel

theorem test_sll :
    reg (exec (.sll 9#5 10#5 31#5) (at_P [(9#5, 0x0000000000000001#64)])) 10#5 = some 0xFFFFFFFF80000000#64 ∧
    reg (exec (.sll 9#5 10#5 4#5) (at_P [(9#5, 0xFFFFFFFF00000001#64)])) 10#5 = some 0x0000000000000010#64 := by decide +kernel

theorem test_srl :
    reg (exec (.srl 9#5 10#5 1#5) (at_P [(9#5, 0x00000000FFFFFFFF#64)])) 10#5 = some 0x000000007FFFFFFF#64 ∧
    reg (exec (.srl 9#5 10#5 0#5) (at_P [(9#5, 0x0000000180000000#64)])) 10#5 = some 0xFFFFFFFF80000000#64 := by decide +kernel

theorem test_sra :
    reg (exec (.sra 9#5 10#5 4#5) (at_P [(9#5, 0x0000000080000000#64)])) 10#5 = some 0xFFFFFFFFF8000000#64 := by decide +kernel

theorem test_variable_shifts :
    reg (exec (.sllv 8#5 9#5 10#5) (at_P [(8#5, 0x0000000000000021#64), (9#5, 0x0000000000000001#64)])) 10#5
      = some 0x0000000000000002#64 ∧
    reg (exec (.srlv 8#5 9#5 10#5) (at_P [(8#5, 0x0000000000000021#64), (9#5, 0x0000000080000000#64)])) 10#5
      = some 0x0000000040000000#64 ∧
    reg (exec (.srav 8#5 9#5 10#5) (at_P [(8#5, 0x000000000000001F#64), (9#5, 0xFFFFFFFF80000000#64)])) 10#5
      = some 0xFFFFFFFFFFFFFFFF#64 := by decide +kernel

theorem test_doubleword_shifts :
    reg (exec (.dsll 9#5 10#5 31#5) (at_P [(9#5, 0x0000000000000001#64)])) 10#5 = some 0x0000000080000000#64 ∧
    reg (exec (.dsrl 9#5 10#5 4#5) (at_P [(9#5, 0x8000000000000000#64)])) 10#5 = some 0x0800000000000000#64 ∧
    reg (exec (.dsra 9#5 10#5 4#5) (at_P [(9#5, 0x8000000000000000#64)])) 10#5 = some 0xF800000000000000#64 := by decide +kernel

theorem test_doubleword_shifts_32 :
    reg (exec (.dsll32 9#5 10#5 31#5) (at_P [(9#5, 0x0000000000000001#64)])) 10#5 = some 0x8000000000000000#64 ∧
    reg (exec (.dsrl32 9#5 10#5 0#5) (at_P [(9#5, 0x8000000000000000#64)])) 10#5 = some 0x0000000080000000#64 ∧
    reg (exec (.dsra32 9#5 10#5 0#5) (at_P [(9#5, 0x8000000000000000#64)])) 10#5 = some 0xFFFFFFFF80000000#64 := by decide +kernel

theorem test_doubleword_variable_shifts :
    reg (exec (.dsllv 8#5 9#5 10#5) (at_P [(8#5, 0x0000000000000040#64), (9#5, 0x0000000000000001#64)])) 10#5
      = some 0x0000000000000001#64 ∧
    reg (exec (.dsrlv 8#5 9#5 10#5) (at_P [(8#5, 0x000000000000003F#64), (9#5, 0xFFFFFFFFFFFFFFFF#64)])) 10#5
      = some 0x0000000000000001#64 ∧
    reg (exec (.dsrav 8#5 9#5 10#5) (at_P [(8#5, 0x0000000000000044#64), (9#5, 0x8000000000000000#64)])) 10#5
      = some 0xF800000000000000#64 := by decide +kernel

theorem test_gate64_in_user_mode :
    reason (exec (.dadd 8#5 9#5 10#5) (setStatus user (at_P []))) = some .mode64Gate := by decide +kernel

/-! ## Multiply and divide (1.5, 2.2) -/

theorem test_mult :
    hiLo (exec (.mult 8#5 9#5) (at_P [(8#5, 0x0000000080000000#64), (9#5, 0x0000000080000000#64)]))
      = some (0x0000000040000000#64, 0x0000000000000000#64) ∧
    hiLo (exec (.mult 8#5 9#5) (at_P [(8#5, 0x0000000080000000#64), (9#5, 0x000000007FFFFFFF#64)]))
      = some (0xFFFFFFFFC0000000#64, 0xFFFFFFFF80000000#64) := by decide +kernel

theorem test_multu :
    hiLo (exec (.multu 8#5 9#5) (at_P [(8#5, 0x00000000FFFFFFFF#64), (9#5, 0x00000000FFFFFFFF#64)]))
      = some (0xFFFFFFFFFFFFFFFE#64, 0x0000000000000001#64) := by decide +kernel

theorem test_dmult :
    hiLo (exec (.dmult 8#5 9#5) (at_P [(8#5, 0x1234567890ABCDEF#64), (9#5, 0xFEDCBA0987654321#64)]))
      = some (0xFFEB498812C66C68#64, 0xC24A442FE55618CF#64) := by decide +kernel

theorem test_dmultu :
    hiLo (exec (.dmultu 8#5 9#5) (at_P [(8#5, 0x1234567890ABCDEF#64), (9#5, 0xFEDCBA0987654321#64)]))
      = some (0x121FA000A3723A57#64, 0xC24A442FE55618CF#64) := by decide +kernel

theorem test_div_truncates :
    hiLo (exec (.div 8#5 9#5) (at_P [(8#5, 0xFFFFFFFFFFFFFFF9#64), (9#5, 0x0000000000000002#64)]))
      = some (0xFFFFFFFFFFFFFFFF#64, 0xFFFFFFFFFFFFFFFD#64) ∧
    hiLo (exec (.div 8#5 9#5) (at_P [(8#5, 0x0000000000000007#64), (9#5, 0xFFFFFFFFFFFFFFFE#64)]))
      = some (0x0000000000000001#64, 0xFFFFFFFFFFFFFFFD#64) := by decide +kernel

theorem test_div_degenerate :
    hiLo (exec (.div 8#5 9#5) (at_P [(8#5, 0x0000000000000005#64), (9#5, 0x0000000000000000#64)]))
      = some (0x0000000000000005#64, 0xFFFFFFFFFFFFFFFF#64) ∧
    hiLo (exec (.div 8#5 9#5) (at_P [(8#5, 0xFFFFFFFFFFFFFFFB#64), (9#5, 0x0000000000000000#64)]))
      = some (0xFFFFFFFFFFFFFFFB#64, 0x0000000000000001#64) ∧
    hiLo (exec (.div 8#5 9#5) (at_P [(8#5, 0x0000000080000000#64), (9#5, 0xFFFFFFFFFFFFFFFF#64)]))
      = some (0x0000000000000000#64, 0xFFFFFFFF80000000#64) := by decide +kernel

theorem test_divu :
    hiLo (exec (.divu 8#5 9#5) (at_P [(8#5, 0x00000000FFFFFFFF#64), (9#5, 0x0000000000000002#64)]))
      = some (0x0000000000000001#64, 0x000000007FFFFFFF#64) ∧
    hiLo (exec (.divu 8#5 9#5) (at_P [(8#5, 0x0000000080000000#64), (9#5, 0x0000000000000000#64)]))
      = some (0xFFFFFFFF80000000#64, 0xFFFFFFFFFFFFFFFF#64) := by decide +kernel

theorem test_ddiv :
    hiLo (exec (.ddiv 8#5 9#5) (at_P [(8#5, 0xFFFFFFFFFFFFFFF9#64), (9#5, 0x0000000000000002#64)]))
      = some (0xFFFFFFFFFFFFFFFF#64, 0xFFFFFFFFFFFFFFFD#64) ∧
    hiLo (exec (.ddiv 8#5 9#5) (at_P [(8#5, 0x8000000000000001#64), (9#5, 0x0000000000000003#64)]))
      = some (0xFFFFFFFFFFFFFFFF#64, 0xD555555555555556#64) := by decide +kernel

theorem test_ddiv_edge :
    reason (exec (.ddiv 8#5 9#5) (at_P [(8#5, 5#64)])) = some .ddivEdge ∧
    reason (exec (.ddiv 8#5 9#5) (at_P [(8#5, 0x8000000000000000#64), (9#5, 0xFFFFFFFFFFFFFFFF#64)]))
      = some .ddivEdge := by decide +kernel

theorem test_ddivu :
    hiLo (exec (.ddivu 8#5 9#5) (at_P [(8#5, 0xFFFFFFFFFFFFFFFF#64), (9#5, 0x000000000000000A#64)]))
      = some (0x0000000000000005#64, 0x1999999999999999#64) ∧
    reason (exec (.ddivu 8#5 9#5) (at_P [(8#5, 1#64)])) = some .ddivEdge := by decide +kernel

theorem test_hi_lo_moves :
    hiLo (exec (.mthi 8#5) (at_P [(8#5, 0x1234#64)])) = some (0x1234#64, 0#64) ∧
    hiLo (exec (.mtlo 8#5) (at_P [(8#5, 0x1234#64)])) = some (0#64, 0x1234#64) ∧
    reg (exec (.mfhi 9#5) { at_P [] with hi := 0x1234#64 }) 9#5 = some 0x1234#64 ∧
    reg (exec (.mflo 9#5) { at_P [] with lo := 0x1234#64 }) 9#5 = some 0x1234#64 := by decide +kernel

/-! ## Branches and jumps (1.3, 2.3) -/

theorem test_beq :
    pcs (exec (.beq 8#5 9#5 3#16) (at_P [(8#5, 0x0000000000000001#64), (9#5, 0x0000000000000001#64)]))
      = some (0xFFFFFFFF80000104#64, 0xFFFFFFFF80000110#64, true) ∧
    pcs (exec (.beq 0#5 0#5 0xFFFF#16) (at_P [])) = some (0xFFFFFFFF80000104#64, P, true) := by decide +kernel

theorem test_beq_far :
    pcs (exec (.beq 0#5 0#5 0x7FFF#16) (at_P [])) = some (0xFFFFFFFF80000104#64, 0xFFFFFFFF80020100#64, true) ∧
    pcs (exec (.beq 0#5 0#5 0x8000#16) (at_P [])) = some (0xFFFFFFFF80000104#64, 0xFFFFFFFF7FFE0104#64, true) := by decide +kernel

theorem test_bne :
    pcs (exec (.bne 8#5 9#5 3#16) (at_P [(8#5, 0x0000000000000001#64), (9#5, 0x0000000000000001#64)]))
      = some (0xFFFFFFFF80000104#64, 0xFFFFFFFF80000108#64, false) ∧
    pcs (exec (.bne 8#5 9#5 3#16) (at_P [(8#5, 0x0000000000000001#64), (9#5, 0x0000000000000002#64)]))
      = some (0xFFFFFFFF80000104#64, 0xFFFFFFFF80000110#64, true) := by decide +kernel

theorem test_compare_with_zero :
    pcs (exec (.blez 8#5 3#16) (at_P [(8#5, 0x0000000000000000#64)])) = some (0xFFFFFFFF80000104#64, 0xFFFFFFFF80000110#64, true) ∧
    pcs (exec (.bgtz 8#5 3#16) (at_P [(8#5, 0x0000000000000000#64)])) = some (0xFFFFFFFF80000104#64, 0xFFFFFFFF80000108#64, false) ∧
    pcs (exec (.bltz 8#5 3#16) (at_P [(8#5, 0xFFFFFFFFFFFFFFFF#64)])) = some (0xFFFFFFFF80000104#64, 0xFFFFFFFF80000110#64, true) ∧
    pcs (exec (.bgez 8#5 3#16) (at_P [(8#5, 0x8000000000000000#64)]))
      = some (0xFFFFFFFF80000104#64, 0xFFFFFFFF80000108#64, false) := by decide +kernel

theorem test_linking_branches :
    pcs (exec (.bltzal 8#5 3#16) (at_P [(8#5, 0x0000000000000001#64)]))
      = some (0xFFFFFFFF80000104#64, 0xFFFFFFFF80000108#64, false) ∧
    reg (exec (.bltzal 8#5 3#16) (at_P [(8#5, 0x0000000000000001#64)])) 31#5 = some 0xFFFFFFFF80000108#64 ∧
    pcs (exec (.bgezal 8#5 3#16) (at_P [(8#5, 0x0000000000000000#64)]))
      = some (0xFFFFFFFF80000104#64, 0xFFFFFFFF80000110#64, true) ∧
    reg (exec (.bgezal 8#5 3#16) (at_P [(8#5, 0x0000000000000000#64)])) 31#5 = some 0xFFFFFFFF80000108#64 := by decide +kernel

theorem test_bgezal_reads_r31_first :
    pcs (exec (.bgezal 31#5 3#16) (at_P [(31#5, 0x0000000000000001#64)]))
      = some (0xFFFFFFFF80000104#64, 0xFFFFFFFF80000110#64, true) := by decide +kernel

theorem test_likely_skips_slot :
    pcs (exec (.beql 8#5 9#5 3#16) (at_P [(8#5, 0x0000000000000001#64), (9#5, 0x0000000000000000#64)]))
      = some (0xFFFFFFFF80000108#64, 0xFFFFFFFF8000010C#64, false) ∧
    pcs (exec (.bnel 8#5 9#5 3#16) (at_P [(8#5, 0x0000000000000001#64), (9#5, 0x0000000000000000#64)]))
      = some (0xFFFFFFFF80000104#64, 0xFFFFFFFF80000110#64, true) ∧
    pcs (exec (.blezl 8#5 3#16) (at_P [(8#5, 0x0000000000000001#64)]))
      = some (0xFFFFFFFF80000108#64, 0xFFFFFFFF8000010C#64, false) ∧
    pcs (exec (.bgtzl 8#5 3#16) (at_P [(8#5, 0x0000000000000001#64)])) = some (0xFFFFFFFF80000104#64, 0xFFFFFFFF80000110#64, true) ∧
    pcs (exec (.bltzl 8#5 3#16) (at_P [(8#5, 0x0000000000000000#64)]))
      = some (0xFFFFFFFF80000108#64, 0xFFFFFFFF8000010C#64, false) ∧
    pcs (exec (.bgezl 8#5 3#16) (at_P [(8#5, 0x0000000000000000#64)]))
      = some (0xFFFFFFFF80000104#64, 0xFFFFFFFF80000110#64, true) := by decide +kernel

theorem test_likely_links :
    pcs (exec (.bltzall 8#5 3#16) (at_P [(8#5, 0x0000000000000000#64)]))
      = some (0xFFFFFFFF80000108#64, 0xFFFFFFFF8000010C#64, false) ∧
    reg (exec (.bltzall 8#5 3#16) (at_P [(8#5, 0x0000000000000000#64)])) 31#5 = some 0xFFFFFFFF80000108#64 ∧
    pcs (exec (.bgezall 8#5 3#16) (at_P [(8#5, 0xFFFFFFFFFFFFFFFF#64)]))
      = some (0xFFFFFFFF80000108#64, 0xFFFFFFFF8000010C#64, false) ∧
    reg (exec (.bgezall 8#5 3#16) (at_P [(8#5, 0xFFFFFFFFFFFFFFFF#64)])) 31#5 = some 0xFFFFFFFF80000108#64 := by decide +kernel

theorem test_j_region :
    pcs (exec (.j 0#26) { at_P [] with pc := 0xFFFFFFFF90000000#64 }) = some (0xFFFFFFFF90000000#64, 0xFFFFFFFF90000000#64, true) ∧
    pcs (exec (.j 0x100#26) (at_P [])) = some (0xFFFFFFFF80000104#64, 0xFFFFFFFF80000400#64, true) := by decide +kernel

theorem test_jal_links :
    reg (exec (.jal 0x100#26) (at_P [])) 31#5 = some 0xFFFFFFFF80000108#64 := by decide +kernel

theorem test_jr :
    pcs (exec (.jr 8#5) (at_P [(8#5, A)])) = some (0xFFFFFFFF80000104#64, A, true) := by decide +kernel

theorem test_jalr_reads_before_link :
    pcs (exec (.jalr 31#5 31#5) (at_P [(31#5, A)])) = some (0xFFFFFFFF80000104#64, A, true) ∧
    reg (exec (.jalr 31#5 31#5) (at_P [(31#5, A)])) 31#5 = some 0xFFFFFFFF80000108#64 := by decide +kernel

theorem test_jump_in_delay_slot :
    reason (exec (.jr 8#5) { at_P [] with prevDelaySlot := true }) = some .branchInDelaySlot := by decide +kernel

/-! ## Loads and stores (2.4) -/

theorem test_lb :
    reg (exec (.lb 4#5 8#5 7#16) (at_A 0x0000000000000000#64)) 8#5 = some 0xFFFFFFFFFFFFFF88#64 ∧
    reg (exec (.lb 4#5 8#5 0#16) (at_A 0x0000000000000000#64)) 8#5 = some 0x0000000000000011#64 := by decide +kernel

theorem test_lbu :
    reg (exec (.lbu 4#5 8#5 7#16) (at_A 0x0000000000000000#64)) 8#5 = some 0x0000000000000088#64 := by decide +kernel

theorem test_lh :
    reg (exec (.lh 4#5 8#5 8#16) (at_A 0x0000000000000000#64)) 8#5 = some 0xFFFFFFFFFFFF99AA#64 := by decide +kernel

theorem test_lhu :
    reg (exec (.lhu 4#5 8#5 8#16) (at_A 0x0000000000000000#64)) 8#5 = some 0x00000000000099AA#64 := by decide +kernel

theorem test_lw :
    reg (exec (.lw 4#5 8#5 4#16) (at_A 0x0000000000000000#64)) 8#5 = some 0x0000000055667788#64 ∧
    reg (exec (.lw 4#5 8#5 8#16) (at_A 0x0000000000000000#64)) 8#5 = some 0xFFFFFFFF99AABBCC#64 := by decide +kernel

theorem test_lwu :
    reg (exec (.lwu 4#5 8#5 8#16) (at_A 0x0000000000000000#64)) 8#5 = some 0x0000000099AABBCC#64 := by decide +kernel

theorem test_ld :
    reg (exec (.ld 4#5 8#5 8#16) (at_A 0x0000000000000000#64)) 8#5 = some 0x99AABBCCDDEEFF00#64 := by decide +kernel

theorem test_lwl :
    reg (exec (.lwl 4#5 8#5 1#16) (at_A 0x00000000AABBCCDD#64)) 8#5 = some 0x00000000223344DD#64 ∧
    reg (exec (.lwl 4#5 8#5 3#16) (at_A 0x00000000AABBCCDD#64)) 8#5 = some 0x0000000044BBCCDD#64 := by decide +kernel

theorem test_lwr :
    reg (exec (.lwr 4#5 8#5 0#16) (at_A 0x00000000AABBCCDD#64)) 8#5 = some 0xFFFFFFFFAABBCC11#64 ∧
    reg (exec (.lwr 4#5 8#5 3#16) (at_A 0x00000000AABBCCDD#64)) 8#5 = some 0x0000000011223344#64 := by decide +kernel

theorem test_ldl :
    reg (exec (.ldl 4#5 8#5 3#16) (at_A 0x0102030405060708#64)) 8#5 = some 0x4455667788060708#64 ∧
    reg (exec (.ldl 4#5 8#5 7#16) (at_A 0x0102030405060708#64)) 8#5 = some 0x8802030405060708#64 := by decide +kernel

theorem test_ldr :
    reg (exec (.ldr 4#5 8#5 0#16) (at_A 0x0102030405060708#64)) 8#5 = some 0x0102030405060711#64 ∧
    reg (exec (.ldr 4#5 8#5 3#16) (at_A 0x0102030405060708#64)) 8#5 = some 0x0102030411223344#64 := by decide +kernel

theorem test_sb :
    bytes8 (exec (.sb 4#5 8#5 1#16) (at_A 0x00000000AABBCCDD#64)) = some 0x11DD334455667788#64 := by decide +kernel

theorem test_sh :
    bytes8 (exec (.sh 4#5 8#5 2#16) (at_A 0x00000000AABBCCDD#64)) = some 0x1122CCDD55667788#64 := by decide +kernel

theorem test_sw :
    bytes8 (exec (.sw 4#5 8#5 4#16) (at_A 0x00000000AABBCCDD#64)) = some 0x11223344AABBCCDD#64 := by decide +kernel

theorem test_sd :
    bytes8 (exec (.sd 4#5 8#5 0#16) (at_A 0x0102030405060708#64)) = some 0x0102030405060708#64 := by decide +kernel

theorem test_swl :
    bytes8 (exec (.swl 4#5 8#5 1#16) (at_A 0x00000000AABBCCDD#64)) = some 0x11AABBCC55667788#64 ∧
    bytes8 (exec (.swl 4#5 8#5 3#16) (at_A 0x00000000AABBCCDD#64)) = some 0x112233AA55667788#64 := by decide +kernel

/-- A partial store to a register window reads the register and writes the merged word (R321; log 22): VI_ORIGIN. -/
theorem test_swl_register :
    (let s := at_P [(4#5, 0xFFFFFFFFA4400005#64), (8#5, 0xAABBCCDD#64)]
     nextHas (exec (.swl 4#5 8#5 0#16) { s with vi := { s.vi with origin := 0x11223344#32 } })
       fun t => t.vi.origin == 0x11AABBCC#32) = true := by decide +kernel

theorem test_swr :
    bytes8 (exec (.swr 4#5 8#5 0#16) (at_A 0x00000000AABBCCDD#64)) = some 0xDD22334455667788#64 ∧
    bytes8 (exec (.swr 4#5 8#5 2#16) (at_A 0x00000000AABBCCDD#64)) = some 0xBBCCDD4455667788#64 := by decide +kernel

theorem test_sdl :
    bytes8 (exec (.sdl 4#5 8#5 3#16) (at_A 0x0102030405060708#64)) = some 0x1122330102030405#64 ∧
    bytes8 (exec (.sdl 4#5 8#5 7#16) (at_A 0x0102030405060708#64)) = some 0x1122334455667701#64 := by decide +kernel

theorem test_sdr :
    bytes8 (exec (.sdr 4#5 8#5 0#16) (at_A 0x0102030405060708#64)) = some 0x0822334455667788#64 ∧
    bytes8 (exec (.sdr 4#5 8#5 3#16) (at_A 0x0102030405060708#64)) = some 0x0506070855667788#64 := by decide +kernel

theorem test_misaligned_loads :
    entered (exec (.lh 4#5 8#5 1#16) (at_A 0#64)) = some (P, 0x00000010#32, 0xFFFFFFFF80001001#64) ∧
    entered (exec (.lw 4#5 8#5 2#16) (at_A 0#64)) = some (P, 0x00000010#32, 0xFFFFFFFF80001002#64) ∧
    entered (exec (.ld 4#5 8#5 4#16) (at_A 0#64)) = some (P, 0x00000010#32, 0xFFFFFFFF80001004#64) := by decide +kernel

theorem test_misaligned_stores :
    entered (exec (.sh 4#5 8#5 3#16) (at_A 0#64)) = some (P, 0x00000014#32, 0xFFFFFFFF80001003#64) ∧
    entered (exec (.sw 4#5 8#5 2#16) (at_A 0#64)) = some (P, 0x00000014#32, 0xFFFFFFFF80001002#64) ∧
    entered (exec (.sd 4#5 8#5 4#16) (at_A 0#64)) = some (P, 0x00000014#32, 0xFFFFFFFF80001004#64) := by decide +kernel

theorem test_ll :
    reg (exec (.ll 4#5 8#5 8#16) (at_A 0x0000000000000000#64)) 8#5 = some 0xFFFFFFFF99AABBCC#64 ∧
    (cop0Of (exec (.ll 4#5 8#5 8#16) (at_A 0#64))).map Cop0.llAddr = some 0x100#32 := by decide +kernel

theorem test_lld :
    reg (exec (.lld 4#5 8#5 8#16) (at_A 0x0000000000000000#64)) 8#5 = some 0x99AABBCCDDEEFF00#64 := by decide +kernel

theorem test_sc :
    bytes8 (exec (.sc 4#5 8#5 4#16) { at_A 5#64 with llbit := true }) = some 0x1122334400000005#64 ∧
    reg (exec (.sc 4#5 8#5 4#16) { at_A 5#64 with llbit := true }) 8#5 = some 1#64 := by decide +kernel

theorem test_scd_without_link :
    bytes8 (exec (.scd 4#5 8#5 0#16) (at_A 0x0000000000000005#64)) = some 0x1122334455667788#64 ∧
    reg (exec (.scd 4#5 8#5 0#16) (at_A 0x0000000000000005#64)) 8#5 = some 0x0000000000000000#64 := by decide +kernel

theorem test_kseg1_in_user_mode :
    entered (exec (.lw 4#5 8#5 0#16) (setStatus user (at_A 0#64))) = some (P, 0x00000010#32, A) := by decide +kernel

theorem test_bus_errors :
    reason (exec (.lw 4#5 8#5 0#16) (at_P [(4#5, 0xFFFFFFFFA3F00000#64)])) = some .busUnmapped ∧
    reason (exec (.sw 4#5 8#5 0#16) (at_P [(4#5, 0xFFFFFFFFB0000000#64)])) = some .romWrite ∧
    reason (exec (.lb 4#5 8#5 0#16) (at_P [(4#5, 0xFFFFFFFFA4300004#64)])) = some .busWidth := by decide +kernel

/-! ## The TLB round trip and its faults (1.4, 2.4) -/

/-- Slot 5 maps 0x402000 to 0x100000 and 0x403000 to 0x101000, as TLBWI of the vector leaves it. -/
def at_tlb : State :=
  let s := at_P []
  let e : TlbEntry :=
    { valid := true, mask := 0#32, vpn2 := 0x402000#64, asid := 0#8, g := true, lo0 := 0x4006#32, lo1 := 0x4046#32 }
  { s with
    cop0 := { s.cop0 with entryHi := 0x402000#64, entryLo0 := 0x4007#32, entryLo1 := 0x4047#32, index := 5#32 }
    tlb := s.tlb.set 5 e }

theorem test_tlbwi :
    (match exec .tlbwi { at_tlb with tlb := (at_P []).tlb } with | .next t => some t.tlb | _ => none)
      = some at_tlb.tlb := by decide +kernel

theorem test_tlbr :
    (cop0Of (exec .tlbr { at_tlb with cop0 := { at_tlb.cop0 with entryHi := 0#64, entryLo0 := 0#32, entryLo1 := 0#32 } })) = some at_tlb.cop0 := by decide +kernel

theorem test_tlbp_hit :
    (cop0Of (exec .tlbp { at_tlb with cop0 := { at_tlb.cop0 with index := 0#32 } })).map Cop0.index = some 5#32 := by decide +kernel

theorem test_tlbwi_bad_mask :
    reason (exec .tlbwi { at_tlb with cop0 := { at_tlb.cop0 with pageMask := 0x2000#32 } }) = some .tlbPagemask := by decide +kernel

theorem test_tlbwr :
    reason (exec .tlbwr at_tlb) = some .tlbwr := by decide +kernel

theorem test_tlb_translations :
    translate at_tlb 0x402010#64 .load .word = .pa 0x100010#32 ∧
    translate at_tlb 0x403010#64 .store .word = .pa 0x101010#32 ∧
    translate at_tlb 0x404000#64 .load .word = .fault (.tlbMissLoad 0x404000#64) ∧
    translate at_tlb 0x401FFC#64 .fetch .word = .fault (.tlbMissLoad 0x401FFC#64) := by decide +kernel

/-- A 16 KiB page pair at 0x400000. -/
def at_16k : State :=
  let s := at_P []
  let e : TlbEntry :=
    { valid := true, mask := 0x6000#32, vpn2 := 0x400000#64, asid := 0#8, g := true, lo0 := 0x8006#32, lo1 := 0x8106#32 }
  { s with tlb := s.tlb.set 7 e }

theorem test_tlb_16k_page :
    tlbTranslate at_16k 0x405123#64 .load = .pa 0x205123#32 := by decide +kernel

theorem test_tlb_miss_entry :
    nextHas (exec (.lw 0#5 8#5 0x5123#16) { at_P [] with cop0 := { (at_P []).cop0 with entryHi := 0x42#64 } })
      (fun t => decide (t.pc = 0xFFFFFFFF80000180#64 ∧ t.cop0.badVAddr = 0x5123#64)) ∧
    nextHas (exec (.lb 4#5 8#5 0x5123#16) { at_P [(4#5, 0x400000#64)] with cop0 := { (at_P []).cop0 with entryHi := 0x42#64 } }) (fun t => decide (t.pc = 0xFFFFFFFF80000000#64 ∧ t.cop0.context = 0x2020#64 ∧ t.cop0.entryHi = 0x404042#64)) := by decide +kernel

/-! ## System instructions and COP0 (2.5) -/

theorem test_syscall :
    entered (exec (.syscall 0#20) (at_P [])) = some (P, 0x00000020#32, 0#64) := by decide +kernel

theorem test_brk :
    entered (exec (.brk 0#20) (at_P [])) = some (P, 0x00000024#32, 0#64) := by decide +kernel

theorem test_traps :
    entered (exec (.teq 8#5 9#5 0#10) (at_P [(8#5, 0x0000000000000005#64), (9#5, 0x0000000000000005#64)]))
      = some (P, 0x00000034#32, 0#64) ∧
    nextIs (exec (.tne 8#5 9#5 0#10) (at_P [(8#5, 0x0000000000000005#64), (9#5, 0x0000000000000005#64)])) (at_P [(8#5, 0x0000000000000005#64), (9#5, 0x0000000000000005#64)]) ∧
    entered (exec (.tltu 8#5 9#5 0#10) (at_P [(8#5, 0x0000000000000001#64), (9#5, 0xFFFFFFFFFFFFFFFF#64)]))
      = some (P, 0x00000034#32, 0#64) ∧
    nextIs (exec (.tlt 8#5 9#5 0#10) (at_P [(8#5, 0x0000000000000001#64), (9#5, 0xFFFFFFFFFFFFFFFF#64)])) (at_P [(8#5, 0x0000000000000001#64), (9#5, 0xFFFFFFFFFFFFFFFF#64)]) ∧
    nextIs (exec (.tgeu 8#5 9#5 0#10) (at_P [(8#5, 0x0000000000000001#64), (9#5, 0xFFFFFFFFFFFFFFFF#64)])) (at_P [(8#5, 0x0000000000000001#64), (9#5, 0xFFFFFFFFFFFFFFFF#64)]) ∧
    entered (exec (.tge 8#5 9#5 0#10) (at_P [(8#5, 0x0000000000000001#64), (9#5, 0xFFFFFFFFFFFFFFFF#64)]))
      = some (P, 0x00000034#32, 0#64) := by decide +kernel

theorem test_immediate_traps :
    entered (exec (.tgei 8#5 0xFFFF#16) (at_P [(8#5, 0x0000000000000000#64)])) = some (P, 0x00000034#32, 0#64) ∧
    nextIs (exec (.tgeiu 8#5 0xFFFF#16) (at_P [(8#5, 0x0000000000000000#64)])) (at_P [(8#5, 0x0000000000000000#64)]) ∧
    nextIs (exec (.tlti 8#5 0xFFFF#16) (at_P [(8#5, 0x0000000000000000#64)])) (at_P [(8#5, 0x0000000000000000#64)]) ∧
    entered (exec (.tltiu 8#5 0xFFFF#16) (at_P [(8#5, 0x0000000000000000#64)])) = some (P, 0x00000034#32, 0#64) ∧
    entered (exec (.teqi 8#5 0xFFFF#16) (at_P [(8#5, 0xFFFFFFFFFFFFFFFF#64)])) = some (P, 0x00000034#32, 0#64) ∧
    nextIs (exec (.tnei 8#5 0xFFFF#16) (at_P [(8#5, 0xFFFFFFFFFFFFFFFF#64)])) (at_P [(8#5, 0xFFFFFFFFFFFFFFFF#64)])
      := by decide +kernel

theorem test_sync_cache :
    nextIs (exec (.sync 0#5) (at_P [])) (at_P []) ∧
    nextIs (exec (.cache 8#5 0#5 0#16) (at_P [])) (at_P []) := by decide +kernel

theorem test_mfc0 :
    reg (exec (.mfc0 8#5 12#5) (at_P [])) 8#5 = some 0x34000000#64 ∧
    reg (exec (.mfc0 8#5 15#5) (at_P [])) 8#5 = some 0xB22#64 := by decide +kernel

theorem test_mfc0_count :
    reg (exec (.mfc0 8#5 9#5) { at_P [] with cop0 := { Cop0.reset with status := 0x34000000#32, count := 0x1FFFFFFFF#33 } }) 8#5 = some 0xFFFFFFFFFFFFFFFF#64 ∧
    reason (exec (.mfc0 8#5 7#5) (at_P [])) = some .cop0Index := by decide +kernel

theorem test_mtc0_masks :
    (cop0Of (exec (.mtc0 8#5 13#5) (at_P [(8#5, 0x00000000FFFFFFFF#64)]))).map Cop0.cause = some 0x00000300#32 ∧
    (cop0Of (exec (.mtc0 8#5 0#5) (at_P [(8#5, 0x00000000FFFFFFFF#64)]))).map Cop0.index = some 0x8000003F#32 ∧
    (cop0Of (exec (.mtc0 8#5 10#5) (at_P [(8#5, 0x00000000FFFFFFFF#64)]))).map Cop0.entryHi = some 0xC00000FFFFFFE0FF#64 ∧
    (cop0Of (exec (.mtc0 8#5 5#5) (at_P [(8#5, 0x00000000FFFFFFFF#64)]))).map Cop0.pageMask = some 0x01FFE000#32 ∧
    (cop0Of (exec (.mtc0 8#5 6#5) (at_P [(8#5, 0x00000000000000FF#64)]))).map Cop0.wired = some 0x0000003F#32 := by decide +kernel

theorem test_mtc0_count_compare :
    (cop0Of (exec (.mtc0 8#5 9#5) (at_P [(8#5, 0x0000000080000000#64)]))).map Cop0.count = some 0x100000000#33 ∧
    (cop0Of (exec (.mtc0 8#5 11#5) { at_P [(8#5, 7#64)] with cop0 := { Cop0.reset with status := 0x34000000#32, cause := 0x8000#32 } })).map Cop0.cause = some 0#32 := by decide +kernel

theorem test_dmfc0_dmtc0 :
    (cop0Of (exec (.dmtc0 8#5 14#5) (at_P [(8#5, 0x123456789ABCDEF0#64)]))).map Cop0.epc = some 0x123456789ABCDEF0#64 ∧
    reg (exec (.dmfc0 9#5 14#5) { at_P [] with cop0 := { Cop0.reset with status := 0x34000000#32, epc := A } }) 9#5
      = some A := by decide +kernel

theorem test_mfc0_in_user_mode :
    entered (exec (.mfc0 8#5 12#5) (setStatus user (at_P []))) = some (P, 0x0000002C#32, 0#64) ∧
    reg (exec (.mfc0 8#5 12#5) (setStatus 0x14000010#32 (at_P []))) 8#5 = some 0x14000010#64 := by decide +kernel

theorem test_eret :
    nextHas (exec .eret { at_P [] with llbit := true, cop0 := { Cop0.reset with status := 0x34000002#32, epc := A } })
      (fun t => decide (t.pc = A ∧ t.cop0.status = 0x34000000#32 ∧ t.llbit = false)) ∧
    nextHas (exec .eret { at_P [] with cop0 := { Cop0.reset with status := 0x34000006#32, errorEpc := A } })
      (fun t => decide (t.pc = A ∧ t.cop0.status = 0x34000002#32)) := by decide +kernel

/-! ## COP1 (2.6) -/

theorem test_cfc1 :
    reg (exec (.cfc1 8#5 0#5) (at_P [])) 8#5 = some 0xA00#64 ∧
    reg (exec (.cfc1 8#5 31#5) { at_P [] with fcr31 := 0x00800000#32 }) 8#5 = some 0x00800000#64 := by decide +kernel

theorem test_ctc1 :
    (match exec (.ctc1 8#5 31#5) (at_P [(8#5, 0x00800001#64)]) with | .next t => some t.fcr31 | _ => none) = some 0x00800001#32 ∧
    reason (exec (.ctc1 8#5 31#5) (at_P [(8#5, 0x1080#64)])) = some .fpuException := by decide +kernel

theorem test_mfc1_odd_half :
    reg (exec (.mfc1 8#5 1#5) ((setStatus 0x30000000#32 (at_P [])).setFgr 0#5 0x3FF0000000000000#64)) 8#5 = some 0x3FF00000#64 ∧
    reg (exec (.mfc1 8#5 0#5) ((setStatus 0x30000000#32 (at_P [])).setFgr 0#5 0x3FF0000000000000#64)) 8#5
      = some 0#64 := by decide +kernel

theorem test_mtc1_odd_half :
    fpr (exec (.mtc1 8#5 1#5) ((setStatus 0x30000000#32 (at_P [])).setGpr 8#5 0x3FF00000#64)) 0#5 = some 0x3FF0000000000000#64 ∧
    fpr (exec (.mtc1 8#5 1#5) (at_P [(8#5, 0x80000000#64)])) 1#5 = some 0x80000000#64 := by decide +kernel

theorem test_dmfc1_dmtc1 :
    reg (exec (.dmfc1 8#5 3#5) ((at_P []).setFgr 3#5 0x4000000000000000#64)) 8#5 = some 0x4000000000000000#64 ∧
    fpr (exec (.dmtc1 8#5 3#5) (at_P [(8#5, A)])) 3#5 = some A ∧
    reason (exec (.dmtc1 8#5 3#5) (setStatus 0x30000000#32 (at_P []))) = some .fr0OddDouble := by decide +kernel

theorem test_bc1 :
    pcs (exec (.bc1f 3#16) (at_P [])) = some (0xFFFFFFFF80000104#64, 0xFFFFFFFF80000110#64, true) ∧
    pcs (exec (.bc1t 3#16) { at_P [] with fcr31 := 0x00800000#32 }) = some (0xFFFFFFFF80000104#64, 0xFFFFFFFF80000110#64, true) ∧
    pcs (exec (.bc1fl 3#16) { at_P [] with fcr31 := 0x00800000#32 }) = some (0xFFFFFFFF80000108#64, 0xFFFFFFFF8000010C#64, false) ∧
    pcs (exec (.bc1tl 3#16) (at_P [])) = some (0xFFFFFFFF80000108#64, 0xFFFFFFFF8000010C#64, false) := by decide +kernel

theorem test_fp_loads :
    fpr (exec (.lwc1 4#5 1#5 4#16) (at_A 0#64)) 1#5 = some 0x55667788#64 ∧
    fpr (exec (.ldc1 4#5 2#5 0#16) (setStatus 0x30000000#32 (at_A 0#64))) 2#5 = some 0x1122334455667788#64 ∧
    reason (exec (.ldc1 4#5 1#5 0#16) (setStatus 0x30000000#32 (at_A 0#64))) = some .fr0OddDouble := by decide +kernel

theorem test_fp_stores :
    bytes8 (exec (.swc1 4#5 0#5 4#16) ((at_A 0#64).setFgr 0#5 0xAABBCCDD#64)) = some 0x11223344AABBCCDD#64 ∧
    bytes8 (exec (.sdc1 4#5 0#5 0#16) ((at_A 0#64).setFgr 0#5 A)) = some A ∧
    entered (exec (.sdc1 4#5 0#5 4#16) (at_A 0#64)) = some (P, 0x00000014#32, 0xFFFFFFFF80001004#64) := by decide +kernel

theorem test_fp_compute :
    reason (exec (.fpComputeS 2#5 1#5 0#5 0#6) (at_P [])) = some .fpuArithmetic ∧
    reason (exec (.fpComputeD 2#5 1#5 0#5 6#6) (at_P [])) = some .fpuArithmetic ∧
    reason (exec (.fpComputeW 2#5 1#5 0#5 0x20#6) (at_P [])) = some .fpuArithmetic ∧
    reason (exec (.fpComputeL 2#5 1#5 0#5 0x21#6) (at_P [])) = some .fpuArithmetic := by decide +kernel

theorem test_cop1_unusable :
    entered (exec (.mfc1 8#5 0#5) (setStatus 0x14000000#32 (at_P []))) = some (P, 0x1000002C#32, 0#64) := by decide +kernel

/-! ## Exceptions and interrupts (1.6, 2.7) -/

theorem test_delay_slot_exception :
    entered (exec (.lw 0#5 8#5 1#16) { at_P [] with prevDelaySlot := true })
      = some (0xFFFFFFFF800000FC#64, 0x80000010#32, 1#64) := by decide +kernel

theorem test_nested_exception :
    entered (exec (.syscall 0#20) { at_P [] with cop0 := { Cop0.reset with status := 0x34000002#32, epc := A } })
      = some (A, 0x00000020#32, 0#64) := by decide +kernel

theorem test_bev :
    reason (exec (.syscall 0#20) (setStatus 0x34400000#32 (at_P []))) = some .bev := by decide +kernel

/-- A step boundary at `P`, with the word of `addiu t0, t0, 1` at `P` and at the general vector. -/
def boundary (c : Cop0) : State :=
  { at_P [] with
    pc := P, nextPc := 0xFFFFFFFF80000104#64, cop0 := c
    mem := (Memory.writeBE [] 0x100 4 0x25080001#64).writeBE 0x180 4 0x25080001#64 }

theorem test_timer_interrupt :
    nextHas (step (boundary { Cop0.reset with count := 10#33, compare := 5#32, status := 0x34008001#32 }))
      (fun t => decide (t.pc = 0xFFFFFFFF80000184#64 ∧ t.cop0.epc = P ∧ t.cop0.cause = 0x00008000#32 ∧ t.gpr 8#5 = 1#64 ∧ t.cop0.count = 11#33)) ∧
    nextHas (step (boundary { Cop0.reset with count := 10#33, compare := 5#32, status := 0x34008003#32 }))
      (fun t => decide (t.pc = 0xFFFFFFFF80000104#64 ∧ t.cop0.cause = 0x00008000#32 ∧ t.now = 1)) := by decide +kernel

theorem test_fetch_fault :
    nextHas (step { boundary Cop0.reset with pc := 0xFFFFFFFF80000102#64 })
      (fun t => decide (t.pc = 0xFFFFFFFF80000180#64 ∧ t.cop0.epc = 0xFFFFFFFF80000102#64 ∧ t.cop0.count = 0#33 ∧ t.now = 1)) := by decide +kernel

/-! ## Devices (1.7, 1.9, 2.8) -/

theorem test_register_reads :
    okHas (busRead 0x04300004#32 .word (at_P [])) (fun v _ => v == 0x0000000002020102#64) ∧
    okHas (busRead 0x04400010#32 .word (at_P [])) (fun v _ => v == 0x0000000000000000#64) ∧
    okHas (busRead 0x04600010#32 .word (at_P [])) (fun v _ => v == 0x0000000000000000#64) ∧
    okHas (busRead 0x04040010#32 .word (at_P [])) (fun v _ => v == 0x0000000000000001#64) := by decide +kernel

theorem test_windows :
    windowOf .mib4 0x3FFFFC = some (.rdram, 0) ∧
    windowOf .mib4 0x400000 = none ∧
    windowOf .mib4 0x04000FFC = some (.spDmem, 0x04000000) ∧
    windowOf .mib4 0x04001000 = some (.spImem, 0x04001000) ∧
    windowOf .mib4 0x04002000 = none ∧
    windowOf .mib4 0x04300010 = none ∧
    windowOf .mib4 0x1FBFFFFC = some (.cart, 0x10000000) ∧
    windowOf .mib4 0x1FC00000 = none ∧
    windowOf .mib4 0x1FC007C0 = some (.pifRam, 0x1FC007C0) ∧
    windowOf .mib4 0x1FC00800 = none := by decide +kernel

theorem test_mi_mask :
    okHas (busWrite 0x0430000C#32 .word 0x0000000000000AAA#64 (at_P [])) (fun _ t => decide (t.mi.mask = 0x3F#6)) ∧
    okHas (busWrite 0x0430000C#32 .word 0x0000000000000555#64 { at_P [] with mi := { State.reset.mi with mask := 0x3F#6 } }) (fun _ t => decide (t.mi.mask = 0#6)) ∧
    okHas (busWrite 0x0430000C#32 .word 0x000000000000000C#64 (at_P [])) (fun _ t => decide (t.mi.mask = 0#6)) ∧
    okHas (busWrite 0x0430000C#32 .word 0x0000000000000200#64 { at_P [] with mi := { State.reset.mi with intr := 0x10#6 } }) (fun _ t => decide (t.mi.mask = 0x10#6 ∧ t.cop0.cause = 0x400#32)) := by decide +kernel

theorem test_mi_mode :
    okHas (busWrite 0x04300000#32 .word 0x0000000000000800#64 { at_P [] with mi := { State.reset.mi with intr := 0x20#6 } }) (fun _ t => decide (t.mi.intr = 0#6)) := by decide +kernel

theorem test_vi_line :
    (let t := runEvent .viLine { at_P [] with vi := { State.reset.vi with vSync := 3#32, line := 2#10 } }
     t.vi.line = 0#10 ∧ t.mi.intr = 8#6 ∧ t.frames.length = 1) ∧
    (let t := runEvent .viLine { at_P [] with vi := { State.reset.vi with vSync := 525#32, vIntr := 2#32, line := 1#10 } }
     t.vi.line = 2#10 ∧ t.mi.intr = 8#6 ∧ t.frames = []) := by decide +kernel

theorem test_vi_v_current :
    okHas (busWrite 0x04400010#32 .word 0x0000000000000007#64 { at_P [] with mi := { State.reset.mi with intr := 8#6 }, vi := { State.reset.vi with line := 5#10 } }) (fun _ t => decide (t.mi.intr = 0#6 ∧ t.vi.line = 5#10)) := by decide +kernel

theorem test_pi_dma_refused :
    fatalIs (busWrite 0x0460000C#32 .word 0x00000000000000FF#64 { at_P [] with pi := { dramAddr := 0x401#24, cartAddr := 0x10001000#32, busy := false } }) .piDmaRange ∧
    fatalIs (busWrite 0x0460000C#32 .word 0x00000000000000FF#64 { at_P [] with pi := { dramAddr := 0x400#24, cartAddr := 0x0FFFFFFE#32, busy := false } }) .piDmaRange ∧
    fatalIs (busWrite 0x0460000C#32 .word 0x0000000000000FFF#64 { at_P [] with pi := { dramAddr := 0x3FF800#24, cartAddr := 0x10000000#32, busy := false } }) .piDmaRange ∧
    fatalIs (busWrite 0x0460000C#32 .word 0x00000000000000FF#64 { at_P [] with pi := { dramAddr := 0x400#24, cartAddr := 0x10001000#32, busy := true } }) .piDmaBusy := by decide +kernel

theorem test_pi_status :
    okHas (busRead 0x04600010#32 .word ({ at_P [] with pi := { dramAddr := 0#24, cartAddr := 0#32, busy := true } }))
      (fun v _ => v == 1#64) ∧
    okHas (busRead 0x04600010#32 .word (runEvent .piDmaDone ({ at_P [] with pi := { dramAddr := 0#24, cartAddr := 0#32, busy := true } }))) (fun v _ => v == 8#64) ∧
    okHas (busWrite 0x04600010#32 .word 0x0000000000000002#64 (runEvent .piDmaDone ({ at_P [] with pi := { dramAddr := 0#24, cartAddr := 0#32, busy := true } }))) (fun _ t => decide (t.mi.intr = 0#6)) := by decide +kernel

/-- A cartridge of three bytes, and a PI DMA set up from it. -/
def at_dma : State :=
  { at_P [] with
    inputs := { Inputs.reset with rdram := .mib4, cart := [0xAA#8, 0xBB#8, 0xCC#8] }
    pi := { dramAddr := 0x400#24, cartAddr := 0x10000000#32, busy := false } }

theorem test_pi_dma :
    okHas (busWrite 0x0460000C#32 .word 0x0000000000000001#64 at_dma)
      (fun _ t => decide (t.mem = [(0x400, 0xAA#8), (0x401, 0xBB#8)] ∧ t.pi.busy = true ∧ t.queue.map Event.kind = [.piDmaDone, .viLine])) := by decide +kernel

theorem test_pi_dma_completes :
    okHas (busWrite 0x0460000C#32 .word 1#64 at_dma) (fun _ t => nextHas (tick 5 t) (fun u =>
      u.pi.busy && u.mi.intr == 0#6 && nextHas (tick 1 u) (fun v => !v.pi.busy && v.mi.intr == 0x10#6))) := by decide +kernel

theorem test_sp_status :
    okHas (busWrite 0x04040010#32 .word 0x0000000000000003#64 (at_P [])) (fun _ t => decide (t.sp.halt = true)) ∧
    okHas (busWrite 0x04040010#32 .word 0x0000000000000001#64 (at_P [])) (fun _ t => decide (t.sp.halt = false)) ∧
    okHas (busWrite 0x04040010#32 .word 0x0000000000000010#64 (at_P [])) (fun _ t => decide (t.mi.intr = 1#6)) ∧
    okHas (busWrite 0x04040010#32 .word 0x0000000000000400#64 (at_P [])) (fun _ t => decide (t.sp.sig = 1#8)) := by decide +kernel

/-! ## Reset, the HLE boot, and the host's two entry points (1.8) -/

theorem test_boot :
    State.reset.gpr 2#5 = 0x0EBDA536#64 ∧
    State.reset.pc = 0xFFFFFFFFA4000040#64 ∧
    State.reset.cop0.status = 0x34000000#32 ∧
    State.reset.cop0.config = 0x0006E463#32 ∧
    State.reset.queue = [⟨State.reset.inputs.viLineCycles, 0, .viLine⟩] := by decide +kernel

theorem test_boot_of_a_cartridge :
    (let s := hleBoot { Launch.reset with inputs := { Inputs.reset with cart := [1#8, 2#8, 3#8] } }
     s.mem = [(0x04000000, 1#8), (0x04000001, 2#8), (0x04000002, 3#8)]) := by decide +kernel

theorem test_reset_is_a_boot : hleBoot Launch.reset = State.reset := hleBoot_reset

theorem test_decode_table_word :
    decodeTableWord 32 0x24080005 = some (.addiu 0#5 8#5 5#16) ∧
    decodeTableWord 32 0x4C000000 = none := by decide +kernel

theorem test_with_fetch_word :
    reg (step (State.reset.withFetchWord 32 0x24080005)) 8#5 = some 5#64 := by decide +kernel

/-! ## Witnesses: for every statement with hypotheses, a state and operands that meet them, clause by clause -/

def okIs {α : Type} [DecidableEq α] (m : Res α) (v : α) (t : State) : Bool :=
  match m with | .ok a u => decide (a = v ∧ u = t) | _ => false

theorem okIs_eq {α : Type} [DecidableEq α] {m : Res α} {v : α} {t : State} (h : okIs m v t = true) : m = .ok v t := by
  unfold okIs at h
  split at h
  · obtain ⟨rfl, rfl⟩ := of_decide_eq_true h; rfl
  · exact absurd h (by decide)

theorem nextIs_eq {o : Out} {t : State} (h : nextIs o t = true) : o = .next t := by
  unfold nextIs at h
  split at h
  · rw [of_decide_eq_true h]
  · exact absurd h (by decide)

/-- The outcome of a computation that completes, whatever its state. -/
def goesOn (o : Out) : Bool := match o with | .next _ => true | _ => false

theorem goesOn_eq {o : Out} (h : goesOn o = true) : ∃ t, o = .next t := by
  unfold goesOn at h
  split at h
  · exact ⟨_, rfl⟩
  · exact absurd h (by decide)

def fatalIn {α : Type} (m : Res α) (r : FatalReason) (t : State) : Bool :=
  match m with | .fatal a u => decide (a = r ∧ u = t) | _ => false

def endian (s : State) : Bool := !(s.mode == .user && s.re)

theorem endian_ok {s : State} (h : endian s = true) : s.endianOk := by
  intro ⟨h1, h2⟩
  unfold endian State.re at h
  rw [h1, h2] at h
  exact absurd h (by decide)

theorem wide_ok {s : State} (h : s.gated64 = false) : s.enabled64 := (gated_iff s).1 h

/-- In the kernel states of the tests every gate is open. -/
theorem kernel_open : (at_A 0#64).endianOk ∧ (at_A 0#64).enabled64 ∧ (at_A 0#64).usable0 ∧ (at_A 0#64).usable1 ∧
    (at_A 0#64).prevDelaySlot = false ∧ (at_A 0#64).fpDouble 3#5 ∧ (at_A 0#64).mem.wf = true :=
  ⟨endian_ok (by decide +kernel), wide_ok (by decide +kernel), (usable0_iff _).1 (by decide +kernel), by unfold State.usable1; decide +kernel,
    by decide +kernel, .inl (by decide +kernel), by decide +kernel⟩

/-- In the user state of the tests every gate is closed. -/
theorem user_closed : let s := setStatus user (at_A 0#64)
    s.mode = .user ∧ ¬ s.enabled64 ∧ ¬ s.usable0 ∧ ¬ s.usable1 ∧ s.cop0.status.getLsbD 28 = false ∧ s.prevDelaySlot = false :=
  ⟨by decide +kernel, fun h => absurd ((gated_iff _).2 h) (by decide +kernel), fun h => absurd ((usable0_iff _).2 h) (by decide +kernel),
    by unfold State.usable1; decide +kernel, by decide +kernel, by decide +kernel⟩

theorem ok_eq {α : Type} {m : Res α} (h : okHas m (fun _ _ => true) = true) : ∃ v t, m = .ok v t := by
  unfold okHas at h
  split at h
  · exact ⟨_, _, rfl⟩
  · exact absurd h (by decide)

/-- A bus write that completes. -/
theorem unit_eq {m : Res Unit} (h : okHas m (fun _ _ => true) = true) : ∃ t, m = .ok () t := by
  obtain ⟨_, t, h⟩ := ok_eq h
  exact ⟨t, h⟩

theorem okHas_eq {α : Type} {m : Res α} {f : α → State → Bool} (h : okHas m f = true) : ∃ v t, m = .ok v t ∧ f v t = true := by
  unfold okHas at h
  split at h
  · exact ⟨_, _, rfl, h⟩
  · exact absurd h (by decide)

theorem reason_eq {o : Out} {r : FatalReason} (h : reason o = some r) : ∃ t, o = .fault (.fatal r t) := by
  unfold reason at h
  split at h
  · injection h with h; subst h; exact ⟨_, rfl⟩
  · exact absurd h (by simp)

/-- Kernel mode, and user mode, with memory `A`. -/
def K : State := at_A 0#64
def U : State := setStatus user K

theorem K_open : K.endianOk ∧ K.enabled64 ∧ K.usable0 ∧ K.usable1 ∧ K.prevDelaySlot = false ∧ K.fpDouble 3#5 ∧ K.mem.wf = true :=
  kernel_open

theorem witness_IgnoredBitsDoNotMatter :
    decode 0b000000_01001_01000_01001_11111_100001#32 = .ok (.addu 9#5 8#5 9#5) ∧
    0b000000_01001_01000_01001_00000_100001#32 &&& usedBits (.addu 9#5 8#5 9#5) =
      0b000000_01001_01000_01001_11111_100001#32 &&& usedBits (.addu 9#5 8#5 9#5) := by decide +kernel

/-- A word with opcode 0x13 at `P`. -/
def unknownAtP : State := { boundary Cop0.reset with mem := Memory.writeBE [] 0x100 4 0x4C000000#64 }

theorem witness_UnknownWordsAreFatal : ∃ t, unknownAtP.fatal = none ∧ fetch unknownAtP = .ok 0x4C000000#32 t ∧
    unknownWord 0x4C000000#32 := by
  obtain ⟨v, t, h, hv⟩ := okHas_eq (m := fetch unknownAtP) (f := fun v _ => v == 0x4C000000#32) (by decide +kernel)
  exact ⟨t, rfl, by rw [h, beq_iff_eq.1 hv], .inl (by decide)⟩

/-- A boundary with nothing pending. -/
def quiet : State := boundary { Cop0.reset with compare := 5#32 }

theorem quiet_no_interrupt : ¬ interrupts (afterFlags quiet) := fun h => absurd h.2.1 (by decide +kernel)

theorem witness_StepRunsDecodedInstruction : ∃ u, quiet.fatal = none ∧ ¬ interrupts (afterFlags quiet) ∧
    translate (afterFlags quiet) quiet.pc .fetch .word = .pa 0x100#32 ∧
    busRead 0x100#32 .word (afterFlags quiet) = .ok 0x25080001#64 u ∧
    decode ((0x25080001#64).setWidth 32) = .ok (.addiu 8#5 8#5 1#16) :=
  ⟨afterFlags quiet, rfl, quiet_no_interrupt, by decide +kernel, okIs_eq (by decide +kernel), by decide +kernel⟩

/-- A boundary whose timer matches with its interrupt enabled. -/
def timer : State := boundary { Cop0.reset with count := 10#33, compare := 5#32, status := 0x34008001#32 }

/-- The same with Status.BEV = 1, a faulting fetch with BEV = 1, and a fetch outside the 32-bit subset with KX = 1. -/
theorem witness_steps_that_stop :
    (let s : State := { timer with cop0 := { timer.cop0 with status := 0x34408001#32 } }
     s.fatal = none ∧ interrupts (afterFlags s) ∧ s.cop0.status.getLsbD 22 = true) ∧
    (let s : State := setStatus 0x34400000#32 { quiet with pc := 0xFFFFFFFF80000102#64 }
     s.fatal = none ∧ ¬ interrupts (afterFlags s) ∧ s.cop0.status.getLsbD 22 = true ∧
     translate (afterFlags s) s.pc .fetch .word = .fault (.addressErrorLoad 0xFFFFFFFF80000102#64)) ∧
    (let s : State := setStatus 0x34000080#32 { quiet with pc := 0x80000000#64 }
     s.fatal = none ∧ ¬ interrupts (afterFlags s) ∧ translate (afterFlags s) s.pc .fetch .word = .fatal .xaddr) :=
  ⟨⟨rfl, ⟨⟨15, by decide, by decide, by decide +kernel, by decide +kernel⟩, by decide +kernel, by decide +kernel, by decide +kernel⟩,
      by decide +kernel⟩,
    ⟨rfl, fun h => absurd h.2.1 (by decide +kernel), by decide +kernel, by decide +kernel⟩,
    rfl, fun h => absurd h.2.1 (by decide +kernel), by decide +kernel⟩

theorem witness_InterruptedStepRunsHandler : ∃ u, timer.fatal = none ∧ interrupts (afterFlags timer) ∧
    timer.cop0.status.getLsbD 22 = false ∧
    busRead 0x180#32 .word (enterException .interrupt false (afterFlags timer)) = .ok 0x25080001#64 u ∧
    decode ((0x25080001#64).setWidth 32) = .ok (.addiu 8#5 8#5 1#16) :=
  ⟨enterException .interrupt false (afterFlags timer), rfl,
    ⟨⟨15, by decide, by decide, by decide +kernel, by decide +kernel⟩, by decide +kernel, by decide +kernel, by decide +kernel⟩,
    by decide +kernel, okIs_eq (by decide +kernel), by decide +kernel⟩

theorem witness_FetchFaultStep : let s := { quiet with pc := 0xFFFFFFFF80000102#64 }
    s.fatal = none ∧ ¬ interrupts (afterFlags s) ∧ s.cop0.status.getLsbD 22 = false ∧
    translate (afterFlags s) s.pc .fetch .word = .fault (.addressErrorLoad 0xFFFFFFFF80000102#64) :=
  ⟨rfl, fun h => absurd h.2.1 (by decide +kernel), by decide +kernel, by decide +kernel⟩

theorem witness_FatalStateHasNoStep : ({ quiet with fatal := some .bev } : State).fatal ≠ none ∧
    ∃ t, step unknownAtP = .fault (.fatal .unknownOpcode t) := ⟨by decide, reason_eq (by decide +kernel)⟩

theorem witness_StepAdvancesNowKeepsInputs : ∃ t, step quiet = .next t := goesOn_eq (by decide +kernel)

theorem witness_DwordAddAndSubtract : ∃ s : State, s.enabled64 := ⟨K, K_open.2.1⟩
theorem witness_DwordShifts : ∃ s : State, s.enabled64 := ⟨K, K_open.2.1⟩
theorem witness_Multiply : ∃ s : State, s.enabled64 := ⟨K, K_open.2.1⟩

theorem witness_DivideWord :
    signedWord 0#64 = 0 ∧ signedWord 0xFFFFFFFF80000000#64 = -2147483648 ∧ signedWord 0xFFFFFFFFFFFFFFFF#64 = -1 ∧
    signedWord 7#64 ≠ 0 ∧ unsignedWord 0xFFFFFFFF00000000#64 = 0 ∧ unsignedWord 7#64 ≠ 0 := by decide +kernel

theorem witness_DivideDword : K.enabled64 ∧ (0#64).toInt = 0 ∧ (0x8000000000000000#64).toInt = -2 ^ 63 ∧
    (0xFFFFFFFFFFFFFFFF#64).toInt = -1 ∧ (7#64).toInt ≠ 0 ∧ (7#64).toNat ≠ 0 := ⟨K_open.2.1, by decide +kernel⟩

theorem witness_Gate64IsFatal : is64 (.dadd 8#5 9#5 10#5) = true ∧ ¬ U.enabled64 := ⟨rfl, user_closed.2.1⟩

theorem witness_RegisterInstructionFrame :
    (gprTarget (.add 8#5 9#5 10#5) = some 10#5 ∧ ∃ t, exec (.add 8#5 9#5 10#5) K = .next t) ∧
    (writesHiLo (.mult 8#5 9#5) = true ∧ ∃ t, exec (.mult 8#5 9#5) K = .next t) ∧
    (∃ t, exec (.mthi 8#5) K = .next t) ∧ ∃ t, exec (.mtlo 8#5) K = .next t :=
  ⟨⟨rfl, goesOn_eq (by decide +kernel)⟩, ⟨rfl, goesOn_eq (by decide +kernel)⟩, goesOn_eq (by decide +kernel),
    goesOn_eq (by decide +kernel)⟩

theorem witness_OrdinaryBranches : K.prevDelaySlot = false := rfl
theorem witness_LikelyBranches : K.prevDelaySlot = false := rfl
theorem witness_LinkingBranches : K.prevDelaySlot = false := rfl
theorem witness_Jumps : K.prevDelaySlot = false := rfl
theorem witness_FpConditionBranches : K.prevDelaySlot = false ∧ K.usable1 := ⟨rfl, K_open.2.2.2.1⟩

theorem witness_BranchInDelaySlotIsFatal :
    isControl .eret = true ∧ ({ K with prevDelaySlot := true } : State).prevDelaySlot = true := ⟨rfl, rfl⟩

/-- The addresses of `A` through register 4 (the load and store witnesses). -/
theorem witness_AlignedLoads : K.endianOk ∧ K.enabled64 ∧
    (translate K (K.address 4#5 7#16) .load .byte = .pa 0x1007#32 ∧ busRead 0x1007#32 .byte K = .ok 0x88#64 K) ∧
    (translate K (K.address 4#5 6#16) .load .half = .pa 0x1006#32 ∧ busRead 0x1006#32 .half K = .ok 0x7788#64 K) ∧
    (translate K (K.address 4#5 4#16) .load .word = .pa 0x1004#32 ∧ busRead 0x1004#32 .word K = .ok 0x55667788#64 K) ∧
    (translate K (K.address 4#5 8#16) .load .dword = .pa 0x1008#32 ∧ busRead 0x1008#32 .dword K = .ok 0x99AABBCCDDEEFF00#64 K) :=
  ⟨K_open.1, K_open.2.1, ⟨by decide +kernel, okIs_eq (by decide +kernel)⟩, ⟨by decide +kernel, okIs_eq (by decide +kernel)⟩,
    ⟨by decide +kernel, okIs_eq (by decide +kernel)⟩, by decide +kernel, okIs_eq (by decide +kernel)⟩

/-- The first and the last byte of a container. -/
theorem witness_PartialLoads : K.endianOk ∧ K.enabled64 ∧
    translate K (K.address 4#5 0#16) .load .byte = .pa 0x1000#32 ∧ translate K (K.address 4#5 7#16) .load .byte = .pa 0x1007#32 ∧
    busRead (BitVec.ofNat 32 (0x1007 / 4 * 4)) .word K = .ok 0x55667788#64 K ∧
    busRead (BitVec.ofNat 32 (0x1007 / 8 * 8)) .dword K = .ok 0x1122334455667788#64 K :=
  ⟨K_open.1, K_open.2.1, by decide +kernel, by decide +kernel, okIs_eq (by decide +kernel), okIs_eq (by decide +kernel)⟩

/-- Register 4 holds the kseg1 address of the last word of PIF RAM but one. -/
def nearPif : State := at_P [(4#5, 0xFFFFFFFFBFC007F8#64)]

theorem witness_AlignedStores : nearPif.endianOk ∧ nearPif.enabled64 ∧ nearPif.mem.wf = true ∧
    (translate nearPif (nearPif.address 4#5 6#16) .store .byte = .pa 0x1FC007FE#32 ∧ nearPif.bytesAt 0x1FC007FE ∧
      ∃ t, busWrite 0x1FC007FE#32 .byte (nearPif.gpr 8#5) nearPif = .ok () t) ∧
    (translate nearPif (nearPif.address 4#5 4#16) .store .half = .pa 0x1FC007FC#32 ∧ nearPif.bytesAt 0x1FC007FC) ∧
    (translate nearPif (nearPif.address 4#5 0#16) .store .word = .pa 0x1FC007F8#32 ∧ nearPif.bytesAt 0x1FC007F8) ∧
    (translate K (K.address 4#5 0#16) .store .dword = .pa 0x1000#32 ∧ K.bytesAt 0x1000) ∧
    ¬(0x1FC007FE ≤ 0x1FC007FF ∧ 0x1FC007FF < 0x1FC007FE + Width.byte.bytes) ∧
    ¬(0x1FC007FC ≤ 0x1FC007FF ∧ 0x1FC007FF < 0x1FC007FC + Width.half.bytes) ∧
    ¬(0x1FC007F8 ≤ 0x1FC007FF ∧ 0x1FC007FF < 0x1FC007F8 + Width.word.bytes) :=
  ⟨endian_ok (by decide +kernel), wide_ok (by decide +kernel), by decide +kernel,
    ⟨by decide +kernel, by unfold State.bytesAt; decide +kernel, unit_eq (by decide +kernel)⟩,
    ⟨by decide +kernel, by unfold State.bytesAt; decide +kernel⟩, ⟨by decide +kernel, by unfold State.bytesAt; decide +kernel⟩,
    ⟨by decide +kernel, by unfold State.bytesAt; decide +kernel⟩, by decide, by decide, by decide⟩

/-- SWL at `A + 1`: the container read, the word the rule merges, and the word written. -/
theorem witness_PartialStores : let s := at_A 0xAABBCCDD#64
    s.endianOk ∧ s.enabled64 ∧ s.mem.wf = true ∧ s.bytesAt 0x1001 ∧ 0x1001 / 4 ≠ 0x1FC007FF / 4 ∧ 0x1001 / 8 ≠ 0x1FC007FF / 8 ∧
    translate s (s.address 4#5 1#16) .store .byte = .pa 0x1001#32 ∧
    busRead 0x1000#32 .word s = .ok 0x11223344#64 s ∧ (∃ u, busWrite 0x1000#32 .word 0x11AABBCC#64 s = .ok () u) ∧
    busRead 0x1000#32 .dword s = .ok 0x1122334455667788#64 s ∧ (∃ u, busWrite 0x1000#32 .dword 0#64 s = .ok () u) ∧
    ∀ p < 4, (0x11AABBCC#64).extractLsb' (8 * (3 - p)) 8 =
      if 1 ≤ p then (0xAABBCCDD#64).extractLsb' (8 * (3 - (p - 1))) 8 else (0x11223344#64).extractLsb' (8 * (3 - p)) 8 :=
  ⟨endian_ok (by decide +kernel), wide_ok (by decide +kernel), by decide +kernel, by unfold State.bytesAt; decide +kernel,
    by decide, by decide, by decide +kernel, okIs_eq (by decide +kernel), unit_eq (by decide +kernel), okIs_eq (by decide +kernel), unit_eq (by decide +kernel),
    by decide +kernel⟩

theorem witness_LinkedAccess : let l := { K with llbit := true }
    K.endianOk ∧ K.enabled64 ∧ translate K (K.address 4#5 4#16) .load .word = .pa 0x1004#32 ∧
    busRead 0x1004#32 .word K = .ok 0x55667788#64 K ∧ translate K (K.address 4#5 8#16) .load .dword = .pa 0x1008#32 ∧
    busRead 0x1008#32 .dword K = .ok 0x99AABBCCDDEEFF00#64 K ∧
    l.endianOk ∧ l.enabled64 ∧ l.llbit = true ∧ K.llbit = false ∧
    translate l (l.address 4#5 4#16) .store .word = .pa 0x1004#32 ∧ (∃ t, busWrite 0x1004#32 .word (l.gpr 8#5) l = .ok () t) ∧
    translate l (l.address 4#5 8#16) .store .dword = .pa 0x1008#32 ∧ (∃ t, busWrite 0x1008#32 .dword (l.gpr 8#5) l = .ok () t) :=
  ⟨K_open.1, K_open.2.1, by decide +kernel, okIs_eq (by decide +kernel), by decide +kernel, okIs_eq (by decide +kernel), K_open.1,
    K_open.2.1, rfl, rfl, by decide +kernel, unit_eq (by decide +kernel), by decide +kernel, unit_eq (by decide +kernel)⟩

/-- Reverse endian in user mode; a misaligned address; an address outside the 32-bit subset with KX = 1. -/
theorem witness_DataFaults : accessOf (.lw 4#5 8#5 2#16) = some (4#5, 2#16, .load, .word) ∧
    gatesOpen (.lw 4#5 8#5 2#16) K ∧ K.endianOk ∧
    translate K (K.address 4#5 2#16) .load .word = .fault (.addressErrorLoad 0xFFFFFFFF80001002#64) ∧
    ¬ (setStatus 0x06000010#32 K).endianOk ∧ gatesOpen (.lw 4#5 8#5 2#16) (setStatus 0x06000010#32 K) ∧
    (let x := setStatus 0x34000080#32 (at_P [(4#5, 0x80000000#64)])
     x.endianOk ∧ gatesOpen (.lw 4#5 8#5 0#16) x ∧ translate x (x.address 4#5 0#16) .load .word = .fatal .xaddr) := by
  have g : ∀ (o : Imm) (s : State), gatesOpen (.lw 4#5 8#5 o) s := fun o s =>
    ⟨fun h => absurd h (by simp [is64]), fun h => absurd h (by simp [isCop1]), fun _ _ _ h => by cases h⟩
  exact ⟨rfl, g _ _, K_open.1, by decide +kernel, fun h => h ⟨by decide +kernel, by decide +kernel⟩, g _ _,
    endian_ok (by decide +kernel), g _ _, by decide +kernel⟩

/-- The first and the last word of every segment, in the modes that tell the outcomes apart. -/
theorem witness_TranslateSegments :
    translate K 0xFFFFFFFF80000001#64 .store .half = .fault (.addressErrorStore 0xFFFFFFFF80000001#64) ∧
    translate K 0x7FFFFFFC#64 .load .word = .fault (.tlbMissLoad 0x7FFFFFFC#64) ∧
    translate (setStatus 4#32 K) 0x7FFFFFFC#64 .load .word = .pa 0x7FFFFFFC#32 ∧
    translate K 0x80000000#64 .load .word = .fault (.addressErrorLoad 0x80000000#64) ∧
    translate (setStatus 0x80#32 K) 0xFFFFFFFF7FFFFFFC#64 .load .word = .fatal .xaddr ∧
    translate K 0xFFFFFFFF80000000#64 .load .word = .pa 0#32 ∧ translate K 0xFFFFFFFF9FFFFFFC#64 .load .word = .pa 0x1FFFFFFC#32 ∧
    translate K 0xFFFFFFFFA0000000#64 .load .word = .pa 0#32 ∧ translate K 0xFFFFFFFFBFFFFFFC#64 .load .word = .pa 0x1FFFFFFC#32 ∧
    translate U 0xFFFFFFFFBFFFFFFC#64 .load .word = .fault (.addressErrorLoad 0xFFFFFFFFBFFFFFFC#64) ∧
    translate K 0xFFFFFFFFC0000000#64 .load .word = .fault (.tlbMissLoad 0xFFFFFFFFC0000000#64) ∧
    translate U 0xFFFFFFFFDFFFFFFC#64 .store .word = .fault (.addressErrorStore 0xFFFFFFFFDFFFFFFC#64) ∧
    translate (setStatus 8#32 K) 0xFFFFFFFFDFFFFFFC#64 .load .word = .fault (.tlbMissLoad 0xFFFFFFFFDFFFFFFC#64) ∧
    translate K 0xFFFFFFFFE0000000#64 .load .word = .fault (.tlbMissLoad 0xFFFFFFFFE0000000#64) ∧
    translate (setStatus 8#32 K) 0xFFFFFFFFFFFFFFFC#64 .load .word = .fault (.addressErrorLoad 0xFFFFFFFFFFFFFFFC#64) := by
  decide +kernel

/-- The three arms of R42, KSU = 2 and KSU = 3 among them: each mode, with its own addressing flag 1 and the others 0. -/
theorem witness_modes :
    (setStatus 0x80#32 K).mode = .kernel ∧ (setStatus 0x80#32 K).ext = true ∧ (setStatus 0x1A#32 K).mode = .kernel ∧
    (setStatus 0x1C#32 K).mode = .kernel ∧ (setStatus 0x48#32 K).mode = .supervisor ∧ (setStatus 0x48#32 K).ext = true ∧
    (setStatus 0x30#32 K).mode = .user ∧ (setStatus 0x38#32 K).mode = .user ∧ (setStatus 0x38#32 K).ext = true ∧
    (setStatus 0xD8#32 K).ext = false := by decide +kernel

/-- A second slot with the page of slot 5. -/
def at_tlb2 : State := { at_tlb with tlb := at_tlb.tlb.set 6 (at_tlb.tlb[5]) }

theorem tlb_empty (va : Dword) (i : Fin 32) : ¬ tlbMatch K va i := by
  have h : ∀ i : Fin 32, K.tlb[i].valid = false := by decide +kernel
  intro hm
  exact absurd hm.1 (by rw [h i]; decide)

theorem tlb_match5 : tlbMatch at_tlb 0x402000#64 5 :=
  have h : ∀ k < 32, 13 ≤ k → at_tlb.tlb[(5 : Fin 32)].mask.getLsbD k = false →
      (0x402000#64).getLsbD k = at_tlb.tlb[(5 : Fin 32)].vpn2.getLsbD k := by decide +kernel
  ⟨by decide +kernel, fun k h1 h2 => h k h2 h1, .inl (by decide +kernel)⟩

theorem tlb_only5 (j : Fin 32) (h : tlbMatch at_tlb 0x402000#64 j) : j = 5 := by
  have : ∀ j : Fin 32, at_tlb.tlb[j].valid = true → j = 5 := by decide +kernel
  exact this j h.1

theorem tlb_both : tlbMatch at_tlb2 0x402000#64 5 ∧ tlbMatch at_tlb2 0x402000#64 6 :=
  have h : ∀ i : Fin 32, i = 5 ∨ i = 6 → ∀ k < 32, 13 ≤ k → at_tlb2.tlb[i].mask.getLsbD k = false →
      (0x402000#64).getLsbD k = at_tlb2.tlb[i].vpn2.getLsbD k := by decide +kernel
  ⟨⟨by decide +kernel, fun k h1 h2 => h 5 (.inl rfl) k h2 h1, .inl (by decide +kernel)⟩,
    by decide +kernel, fun k h1 h2 => h 6 (.inr rfl) k h2 h1, .inl (by decide +kernel)⟩

theorem witness_TlbTranslation :
    (∀ i, ¬ tlbMatch K 0x402000#64 i) ∧ (tlbMatch at_tlb2 0x402000#64 5 ∧ tlbMatch at_tlb2 0x402000#64 6) ∧
    tlbMatch at_tlb 0x402000#64 5 ∧ ∀ j, tlbMatch at_tlb 0x402000#64 j → j = 5 :=
  ⟨tlb_empty _, tlb_both, tlb_match5, tlb_only5⟩

theorem witness_Eret : let e := setStatus 0x34000004#32 K
    K.prevDelaySlot = false ∧ K.usable0 ∧ K.cop0.status.getLsbD 2 = false ∧
    e.prevDelaySlot = false ∧ e.usable0 ∧ e.cop0.status.getLsbD 2 = true :=
  ⟨rfl, K_open.2.2.1, by decide +kernel, rfl, (usable0_iff _).1 (by decide +kernel), by decide +kernel⟩

/-- Both arms of every trap condition, and both values of Status.BEV. -/
theorem witness_TrapsSyncAndCache : K.usable0 ∧ K.cop0.status.getLsbD 22 = false ∧
    (setStatus 0x34400000#32 K).cop0.status.getLsbD 22 = true ∧
    (let m : Dword := 0xFFFFFFFFFFFFFFFF#64
     m.toInt ≤ (1#64).toInt ∧ ¬ (1#64).toInt ≤ m.toInt ∧ (1#64).toNat ≤ m.toNat ∧ ¬ m.toNat ≤ (1#64).toNat ∧ 1#64 ≠ m) ∧
    (let i : Imm := 0xFFFF#16
     let c : Dword := BitVec.ofInt 64 i.toInt
     i.toInt ≤ (0#64).toInt ∧ ¬ (0#64).toInt < i.toInt ∧ (0#64).toNat < c.toNat ∧ ¬ c.toNat ≤ (0#64).toNat ∧ c ≠ 0#64) :=
  ⟨K_open.2.2.1, by decide +kernel, by decide +kernel, by decide +kernel, by decide +kernel⟩

theorem witness_CoprocessorUnusable :
    isCop0 (.mfc0 8#5 12#5) = true ∧ is64 (.mfc0 8#5 12#5) = false ∧ isControl (.mfc0 8#5 12#5) = false ∧ ¬ U.usable0 ∧
    isCop1 (.mfc1 8#5 12#5) = true ∧ is64 (.mfc1 8#5 12#5) = false ∧ isControl (.mfc1 8#5 12#5) = false ∧ ¬ U.usable1 ∧
    is64 (.dmfc0 8#5 12#5) = true ∧ (setStatus 0x04000030#32 K).enabled64 ∧ ¬ (setStatus 0x04000030#32 K).usable0 ∧
    isControl .eret = true ∧ U.prevDelaySlot = false :=
  ⟨rfl, rfl, rfl, user_closed.2.2.1, rfl, rfl, rfl, user_closed.2.2.2.1, rfl, wide_ok (by decide +kernel),
    fun h => absurd ((usable0_iff _).2 h) (by decide +kernel), rfl, rfl⟩

/-- Wired at most 31, and above it. -/
theorem witness_Cop0Reads : K.usable0 ∧ K.enabled64 ∧ K.cop0.wired.toNat % 64 ≤ 31 ∧
    (let s : State := { K with cop0 := { K.cop0 with wired := 40#32 } }
     s.usable0 ∧ s.enabled64 ∧ ¬ s.cop0.wired.toNat % 64 ≤ 31) :=
  ⟨K_open.2.2.1, K_open.2.1, by decide +kernel, (usable0_iff _).1 (by decide +kernel), wide_ok (by decide +kernel), by decide +kernel⟩
theorem witness_Cop0Writes : K.usable0 ∧ K.enabled64 := ⟨K_open.2.2.1, K_open.2.1⟩

theorem witness_StopsByRule : K.usable0 ∧ K.usable1 ∧ K.enabled64 ∧
    (31#5).toNat ∈ [7, 21, 22, 23, 24, 25, 26, 27, 28, 29, 31] ∧ (30#5 : Reg) ≠ 0#5 ∧ (30#5 : Reg) ≠ 31#5 :=
  ⟨K_open.2.2.1, K_open.2.2.2.1, K_open.2.1, by decide, by decide, by decide⟩

theorem witness_TlbInstructions : K.usable0 ∧ at_tlb.usable0 ∧ at_tlb2.usable0 ∧
    K.cop0.pageMask.toNat ∈ [0x0, 0x6000, 0x1E000, 0x7E000, 0x1FE000, 0x7FE000, 0x1FFE000] ∧
    (0x2000#32).toNat ∉ [0x0, 0x6000, 0x1E000, 0x7E000, 0x1FE000, 0x7FE000, 0x1FFE000] ∧
    (∀ j, ¬ tlbMatch K K.cop0.entryHi j) ∧
    (tlbMatch at_tlb at_tlb.cop0.entryHi 5 ∧ ∀ j, tlbMatch at_tlb at_tlb.cop0.entryHi j → j = 5) ∧
    tlbMatch at_tlb2 at_tlb2.cop0.entryHi 5 ∧ tlbMatch at_tlb2 at_tlb2.cop0.entryHi 6 :=
  ⟨K_open.2.2.1, (usable0_iff _).1 (by decide +kernel), (usable0_iff _).1 (by decide +kernel), by decide +kernel, by decide,
    tlb_empty _, ⟨tlb_match5, tlb_only5⟩, tlb_both⟩

/-- A value with Cause I and Enable I, one with E, and one with neither. -/
theorem witness_FpControlRegisters : K.usable1 ∧
    (∃ k < 5, (0x1080#32).getLsbD (12 + k) = true ∧ (0x1080#32).getLsbD (7 + k) = true) ∧ (0x20000#32).getLsbD 17 = true ∧
    ¬ ((0x00800001#32).getLsbD 17 = true ∨
      ∃ k < 5, (0x00800001#32).getLsbD (12 + k) = true ∧ (0x00800001#32).getLsbD (7 + k) = true) :=
  ⟨K_open.2.2.2.1, by decide, by decide, by decide⟩

/-- Status.FR is 0 here, so register 3 is half of register 2. -/
def fr0 : State := setStatus 0x30000000#32 K

theorem fr0_odd : ¬ fr0.fpDouble 3#5 := by unfold State.fpDouble; decide +kernel

theorem witness_FpMoves : K.usable1 ∧ K.enabled64 ∧ K.fpDouble 3#5 ∧ fr0.usable1 ∧ fr0.enabled64 ∧ ¬ fr0.fpDouble 3#5 :=
  ⟨K_open.2.2.2.1, K_open.2.1, K_open.2.2.2.2.2.1, by unfold State.usable1; decide +kernel, wide_ok (by decide +kernel), fr0_odd⟩

theorem witness_FpLoadsAndStores : K.endianOk ∧ K.usable1 ∧ K.fpDouble 3#5 ∧ fr0.endianOk ∧ fr0.usable1 ∧ ¬ fr0.fpDouble 3#5 ∧
    translate K (K.address 4#5 4#16) .load .word = .pa 0x1004#32 ∧ busRead 0x1004#32 .word K = .ok 0x55667788#64 K ∧
    translate fr0 (fr0.address 4#5 8#16) .load .dword = .pa 0x1008#32 ∧
    busRead 0x1008#32 .dword fr0 = .ok 0x99AABBCCDDEEFF00#64 fr0 ∧
    translate K (K.address 4#5 4#16) .store .word = .pa 0x1004#32 ∧
    (∃ t, busWrite 0x1004#32 .word ((fpWord K 3#5).setWidth 64) K = .ok () t) ∧
    translate K (K.address 4#5 8#16) .store .dword = .pa 0x1008#32 ∧ ∃ t, busWrite 0x1008#32 .dword (K.fgr 3#5) K = .ok () t :=
  ⟨K_open.1, K_open.2.2.2.1, K_open.2.2.2.2.2.1, endian_ok (by decide +kernel), by unfold State.usable1; decide +kernel, fr0_odd,
    by decide +kernel, okIs_eq (by decide +kernel), by decide +kernel, okIs_eq (by decide +kernel), by decide +kernel, unit_eq (by decide +kernel),
    by decide +kernel, unit_eq (by decide +kernel)⟩

/-- The last address before a gap, the last word of memory windows, the ends of the cartridge, and a register. -/
theorem witness_BusReads : windowOf K.inputs.rdram 0x400000 = none ∧ K.bytesAt 0x3FFFFC ∧ K.bytesAt 0x1FC007C0 ∧
    inCart 0x10000000 ∧ inCart 0x1FBFFFFF ∧ inRegisters K 0x04800018 ∧
    at_dma.inputs.cart[0x10000002 - 0x10000000 + 0]? = some 0xCC#8 ∧ 0x10000000 - 0x10000000 + 2 ≤ at_dma.inputs.cart.length :=
  ⟨by decide +kernel, by unfold State.bytesAt; decide +kernel, by unfold State.bytesAt; decide +kernel, by unfold inCart; decide,
    by unfold inCart; decide, ⟨.si, 0x04800000, by decide +kernel, by decide⟩, by decide +kernel, by decide +kernel⟩

theorem witness_BusWrites : windowOf K.inputs.rdram 0x1FC00800 = none ∧ K.mem.wf = true ∧ K.bytesAt 0x1000 ∧
    0x1000 % Width.dword.bytes = 0 ∧ 0x1000 + Width.dword.bytes ≠ 0x1FC00800 ∧
    K.bytesAt 0x1FC007FC ∧ 0x1FC007FC % Width.word.bytes = 0 ∧ 0x1FC007FC + Width.word.bytes = 0x1FC00800 ∧
    inCart 0x10000000 ∧ inRegisters K 0x04040000 :=
  ⟨by decide +kernel, by decide +kernel, by unfold State.bytesAt; decide +kernel, by decide, by decide,
    by unfold State.bytesAt; decide +kernel, by decide, by decide, by unfold inCart; decide, ⟨.spRegs, 0x04040000, by decide +kernel, by decide⟩⟩

theorem witness_MipsInterface : (0x800#64).getLsbD 11 = true ∧ (0x7FF#64).getLsbD 11 = false := by decide

/-- Busy; an odd address; the last transfer that fits and one byte more; and a transfer of listed cartridge bytes. -/
theorem witness_PeripheralInterface :
    (∃ s : State, s.pi.busy = true) ∧ at_dma.pi.busy = false ∧ (0x401#24).toNat % 2 = 1 ∧
    at_dma.pi.dramAddr.toNat % 2 = 0 ∧ at_dma.pi.cartAddr.toNat % 2 = 0 ∧ at_dma.mem.wf = true ∧
    (0x3FFFFE + (1 + 1) ≤ rdramBytes .mib4 ∧ ¬ 0x3FFFFE + (2 + 1) ≤ rdramBytes .mib4) ∧
    (0x1FBFFFFE + (1 + 1) ≤ 0x1FC00000 ∧ ¬ 0x1FBFFFFE + (2 + 1) ≤ 0x1FC00000) ∧
    at_dma.pi.dramAddr.toNat + (1 + 1) ≤ rdramBytes at_dma.inputs.rdram ∧ 0x10000000 ≤ at_dma.pi.cartAddr.toNat ∧
    at_dma.inputs.cart[at_dma.pi.cartAddr.toNat - 0x10000000 + 1]? = some 0xBB#8 ∧
    (2#64).getLsbD 1 = true ∧ (1#64).getLsbD 1 = false :=
  ⟨⟨{ at_dma with pi := { at_dma.pi with busy := true } }, rfl⟩, rfl, by decide, by decide +kernel, by decide +kernel, by decide +kernel,
    by decide, by decide, by decide +kernel, by decide +kernel, by decide +kernel, by decide, by decide⟩

/-- The last register of a window, and a state with well-formed memory. -/
theorem witness_DevEffectsLimited : K.mem.wf = true ∧
    ∃ offsets, (Window.si, 0x04800000, offsets) ∈ devRegisters ∧ 0x18 ∈ offsets :=
  ⟨K_open.2.2.2.2.2.2, [0x00, 0x04, 0x08, 0x0C, 0x10, 0x14, 0x18], by decide, by decide⟩

/-- `K` meets the invariant at a step boundary. -/
theorem K_invariant : K.Inv := by
  refine ⟨?_, by decide +kernel⟩
  constructor
  case cop0 => constructor <;> decide +kernel
  case tlb =>
    intro e he
    have he : e ∈ List.replicate 32 TlbEntry.reset := he
    rw [List.eq_of_mem_replicate he]
    constructor <;> decide +kernel
  all_goals decide +kernel

theorem witness_TickRunsDueEvents : K.DataInv ∧ (∀ e ∈ K.queue, K.now + 5 < e.deadline) ∧
    ∃ (s : State) (q : List Event), s.queue = ⟨s.now + 1, 7, .piDmaDone⟩ :: q ∧ ∀ e ∈ q, s.now + 1 < e.deadline :=
  ⟨K_invariant.1, by decide +kernel, { K with queue := ⟨K.now + 1, 7, .piDmaDone⟩ :: K.queue }, K.queue, rfl, by decide +kernel⟩

/-- A launch whose cartridge holds the last byte the boot copies. -/
def longCart : Launch := { Launch.reset with inputs := { Inputs.reset with cart := List.replicate 4096 1#8 } }

theorem replicate_last (n : Nat) (h : 4095 < n) : (List.replicate n 1#8)[4095]? = some 1#8 := by
  rw [List.getElem?_replicate]; exact if_pos h

theorem bootGpr_not_24 : ∀ p ∈ Launch.reset.bootGpr, p.1 ≠ 24#5 := by
  have h : (Launch.reset.bootGpr.all fun p => p.1 != 24#5) = true := by decide +kernel
  intro p hp
  simpa using List.all_eq_true.1 h p hp

theorem witness_BootState : Launch.reset.cic = .cic6102or7101 ∧ (∀ p ∈ Launch.reset.bootGpr, p.1 ≠ 24#5) ∧
    longCart.mem.wf = true ∧ longCart.inputs.cart[4095]? = some 1#8 :=
  ⟨by decide +kernel, bootGpr_not_24, Memory.wf_nil, replicate_last 4096 (by decide)⟩

/-- `K` with its next instruction at `A`, in an empty memory. -/
def atEmpty : State := { K with pc := A, nextPc := A + 4#64, mem := [] }

theorem witness_StepKeepsInvariant : ∃ t : State, atEmpty.Inv ∧ step atEmpty = .next t := by
  obtain ⟨t, h⟩ := goesOn_eq (o := step atEmpty) (by decide +kernel)
  have d : atEmpty.DataInv := { K_invariant.1 with memForm := Memory.wf_nil, memPlace := by simp [atEmpty] }
  exact ⟨t, ⟨d, K_invariant.2⟩, h⟩

theorem witness_UserModeIsConfined : U.mode = .user ∧ U.cop0.status.getLsbD 28 = false ∧
    (∃ t, exec (.add 8#5 9#5 10#5) U = .next t) ∧ ∃ t, exec (.mfc0 8#5 12#5) U = .next t :=
  ⟨user_closed.1, user_closed.2.2.2.2.1, goesOn_eq (by decide +kernel), goesOn_eq (by decide +kernel)⟩

end Sys2Proof.Tests
end

section
/-! PROOFS. What every instruction keeps: a property that survives the state operations survives `exec` and the fetch. -/

namespace Sys2Proof.Machine

/-- `P` survives each state operation that instructions are made of, under what the instructions check before it. -/
structure Kept (P : State → Prop) : Prop where
  setGpr : ∀ {s}, P s → ∀ r v, P (s.setGpr r v)
  control : ∀ {s}, P s → ∀ hi lo prevPc pc nextPc d p l f n,
    P { s with hi := hi, lo := lo, prevPc := prevPc, pc := pc, nextPc := nextPc, delaySlot := d, prevDelaySlot := p,
               llbit := l, fgrs := f, draws := n }
  enter : ∀ {s}, P s → ∀ k p, P (enterException k p s)
  eret : ∀ {s}, P s → P (returnFromException s)
  read : ∀ {s}, P s → ∀ pa w, (busRead pa w s).After P
  /-- An instruction writes aligned addresses only (R103, R320). -/
  write : ∀ {s}, P s → ∀ {pa : Word} {w : Width}, pa.toNat % w.bytes = 0 → ∀ v, (busWrite pa w v s).After P
  linked : ∀ {s}, P s → ∀ l a, P { s with llbit := l, cop0 := { s.cop0 with llAddr := a } }
  cop0Write : ∀ {s}, P s → ∀ n v, (cop0Write n v s).After P
  index : ∀ {s}, P s → ∀ n {i : Word}, i &&& ~~~0x8000003F#32 = 0#32 →
    P { s with draws := n, cop0 := { s.cop0 with index := i } }
  fcr31 : ∀ {s}, P s → ∀ v, P { s with fcr31 := v &&& fcr31Mask }
  tlbWrite : ∀ {s}, P s → legalPageMask s.cop0.pageMask = true → ∀ k : BitVec 5,
    P { s with tlb := s.tlb.set k.toNat (entryOfCop0 s.cop0) k.isLt }
  tlbRead : ∀ {s}, P s → ∀ k : BitVec 5, P { s with cop0 := cop0OfEntry (s.tlb[k.toNat]'k.isLt) s.cop0 }

/-- A matching entry stands in one of the 32 slots. -/
theorem tlbHits_slot {s : State} {a : Word} {p : TlbEntry × Nat} (h : p ∈ tlbHits s a) : p.2 < 32 := by
  have hz : p ∈ s.tlb.toList.zipIdx := (List.mem_filter.1 h).1
  simpa using (List.mem_zipIdx hz).2.1

/-- A slot number lies in the bits of Index (R31), and so does what TLBP writes on a miss. -/
theorem index_slot {n : Nat} (h : n < 32) : BitVec.ofNat 32 n &&& ~~~0x8000003F#32 = 0#32 := by
  revert n; decide

theorem index_miss (x : BitVec 6) : (0x80000000#32 ||| x.setWidth 32) &&& ~~~0x8000003F#32 = 0#32 := by
  revert x; decide

theorem after_fpRead64 {P : State → Prop} {s : State} (h : P s) (r : Reg) : (fpRead64 r s).After P := by
  unfold fpRead64; split
  · exact h
  · trivial

/-- `o` is the outcome of a computation after which `P` holds. -/
def Ends (P : State → Prop) (o : Out) : Prop := ∃ m : Res Unit, o = m.outcome ∧ m.After P

theorem ends {P : State → Prop} {m : Res Unit} (h : m.After P) : Ends P m.outcome := ⟨m, rfl, h⟩

theorem ends_next {P : State → Prop} {s : State} (h : P s) : Ends P (.next s) := ends (after_done h)

theorem Ends.of_next {P : State → Prop} {o : Out} {t : State} (h : Ends P o) (hn : o = .next t) : P t := by
  obtain ⟨m, rfl, hm⟩ := h
  exact hm.outcome hn

section
variable {P : State → Prop} (hk : Kept P) {s : State} (h : P s)
include hk h

namespace Kept

/-! ## Through the shared operations -/

theorem setFgr (r : Reg) (v : Dword) : P (s.setFgr r v) :=
  hk.control h s.hi s.lo s.prevPc s.pc s.nextPc s.delaySlot s.prevDelaySlot s.llbit _ s.draws

theorem setHiLo (a b : Dword) : P (s.setHiLo a b) :=
  hk.control h a b s.prevPc s.pc s.nextPc s.delaySlot s.prevDelaySlot s.llbit s.fgrs s.draws

theorem draw (n : Nat) : P { s with draws := n } :=
  hk.control h s.hi s.lo s.prevPc s.pc s.nextPc s.delaySlot s.prevDelaySlot s.llbit s.fgrs n

theorem advance : P (advance s) :=
  hk.control h s.hi s.lo s.pc s.nextPc (s.nextPc + 4#64) s.delaySlot s.prevDelaySlot s.llbit s.fgrs s.draws

theorem branch (c : Bool) (target : Dword) : P (branch c target s) := by
  unfold Machine.branch; split
  · exact hk.control h s.hi s.lo s.prevPc s.pc target true s.prevDelaySlot s.llbit s.fgrs s.draws
  · exact h

theorem branchLikely (c : Bool) (target : Dword) : P (branchLikely c target s) := by
  unfold Machine.branchLikely; split
  · exact hk.control h s.hi s.lo s.prevPc s.pc target true s.prevDelaySlot s.llbit s.fgrs s.draws
  · exact hk.control h s.hi s.lo s.prevPc s.nextPc (s.nextPc + 4#64) Config.likelyNtMarksDs s.prevDelaySlot s.llbit s.fgrs
      s.draws

theorem raised {α : Type} (k : Exc) : (raise k true s : Res α).After P := after_raise (hk.enter h _ _)

theorem ifCop0 {m : Res Unit} (g : m.After P) : (needsCop0 s m).After P := after_needsCop0 g (hk.enter h _ _)

theorem ifCop1 {m : Res Unit} (g : m.After P) : (needsCop1 s m).After P := after_needsCop1 g (hk.enter h _ _)

theorem dataAddr (va : Dword) (acc : Access) (w : Width) : (dataAddr va acc w s).After P :=
  after_dataAddr h fun _ => hk.enter h _ _

theorem memRead (va : Dword) (w : Width) : (memRead va w s).After P :=
  (hk.dataAddr h va .load w).bind fun pa _ _ ht => hk.read ht pa w

theorem memWrite (va : Dword) (w : Width) (v : Dword) : (memWrite va w v s).After P :=
  (hk.dataAddr h va .store w).bind fun _ _ hp ht => hk.write ht (dataAddr_aligned hp) v

theorem load (va : Dword) (w : Width) (rt : Reg) (f : Dword → Dword) : (load va w rt f s).After P :=
  (hk.memRead h va w).bind fun v _ _ ht => hk.setGpr ht rt (f v)

theorem partialRead (va : Dword) (w : Width) : (partialRead va w s).After P :=
  (hk.dataAddr h va .load .byte).bind fun pa _ _ ht => hk.read ht (container pa w) w

theorem loadPart (va : Dword) (w : Width) (rt : Reg) (f : Dword → Dword) : (loadPart va w rt f s).After P :=
  (hk.partialRead h va w).bind fun v _ _ ht => hk.setGpr ht rt (f v)

theorem partialWrite (va : Dword) (w : Width) (mask bits : Dword) : (partialWrite va w mask bits s).After P :=
  (hk.dataAddr h va .store .byte).bind fun pa _ _ ht =>
    (hk.read ht (container pa w) w).bind fun _ _ _ hu => hk.write hu (container_aligned pa w) _

theorem loadLinked (va : Dword) (w : Width) (rt : Reg) (f : Dword → Dword) : (loadLinked va w rt f s).After P :=
  (hk.dataAddr h va .load w).bind fun pa _ _ ht =>
    (hk.read ht pa w).bind fun v _ _ hu => hk.linked (hk.setGpr hu rt (f v)) true (pa >>> 4)

theorem storeConditional (va : Dword) (w : Width) (rt : Reg) : (storeConditional va w rt s).After P := by
  refine (hk.dataAddr h va .store w).bind fun pa t hp ht => ?_
  split
  · exact (hk.write ht (dataAddr_aligned hp) _).bind fun _ _ _ hu => hk.setGpr hu rt _
  · exact hk.setGpr ht rt _

theorem fpWrite32 (r : Reg) (v : Word) : P (fpWrite32 r v s) := by
  unfold Machine.fpWrite32; split <;> exact hk.setFgr h _ _

theorem fpWrite64 (r : Reg) (v : Dword) : (fpWrite64 r v s).After P := by
  unfold Machine.fpWrite64; split
  · exact hk.setFgr h r v
  · trivial

theorem cop0Read (n : BitVec 5) : (cop0Read n s).After P := by
  unfold Machine.cop0Read
  split
  -- Random is the second arm; the last one is a register the core does not have.
  case h_2 => exact hk.draw h (s.draws + 1)
  case h_22 => trivial
  all_goals exact h

theorem takeInterrupt : (takeInterrupt s).After P := by
  unfold Machine.takeInterrupt
  split
  · unfold raise
    cases s.bev
    · exact hk.enter h .interrupt false
    · trivial
  · exact h

theorem fetchAtPc : (fetchAtPc s).After P := by
  unfold Machine.fetchAtPc
  split
  · exact after_raise (hk.enter h _ _)
  · trivial
  · exact (hk.read h _ _).bind fun _ _ _ ht => hk.advance ht

theorem trapIf (c : Bool) : (if c then raise .trap true s else done s : Res Unit).After P := by
  split
  · exact hk.raised h _
  · exact h

/-! ## Through an instruction -/

/-- Every instruction is a computation that `P` survives. -/
theorem exec (i : Instr) : Ends P (exec i s) := by
  cases i
  case add | addu | sub | subu | addi | addiu | slt | sltu | slti | sltiu | and | or | xor | nor | andi | ori | xori | lui
      | sll | srl | sra | sllv | srlv | srav | mfhi | mflo =>
    exact ends_next (hk.setGpr h _ _)
  case dadd | daddu | dsub | dsubu | daddi | daddiu | dsll | dsrl | dsra | dsll32 | dsrl32 | dsra32 | dsllv | dsrlv | dsrav =>
    exact ends (after_needs64 (hk.setGpr h _ _))
  case mthi | mtlo | mult | multu | div | divu => exact ends_next (hk.setHiLo h _ _)
  case dmult | dmultu => exact ends (after_needs64 (hk.setHiLo h _ _))
  case ddiv | ddivu =>
    refine ends (after_needs64 ?_)
    split
    · trivial
    · exact hk.setHiLo h _ _
  case beq | bne | blez | bgtz | bltz | bgez | j | jr => exact ends (after_needsNoSlot (hk.branch h _ _))
  case bltzal | bgezal | jal | jalr => exact ends (after_needsNoSlot (hk.branch (hk.setGpr h _ _) _ _))
  case beql | bnel | blezl | bgtzl | bltzl | bgezl => exact ends (after_needsNoSlot (hk.branchLikely h _ _))
  case bltzall | bgezall => exact ends (after_needsNoSlot (hk.branchLikely (hk.setGpr h _ _) _ _))
  case bc1f | bc1t => exact ends (after_needsNoSlot (hk.ifCop1 h (hk.branch h _ _)))
  case bc1fl | bc1tl => exact ends (after_needsNoSlot (hk.ifCop1 h (hk.branchLikely h _ _)))
  case lb | lbu | lh | lhu | lw => exact ends (hk.load h _ _ _ _)
  case lwu | ld => exact ends (after_needs64 (hk.load h _ _ _ _))
  case lwl | lwr => exact ends (hk.loadPart h _ _ _ _)
  case ldl | ldr => exact ends (after_needs64 (hk.loadPart h _ _ _ _))
  case sb | sh | sw => exact ends (hk.memWrite h _ _ _)
  case sd => exact ends (after_needs64 (hk.memWrite h _ _ _))
  case swl | swr => exact ends (hk.partialWrite h _ _ _ _)
  case sdl | sdr => exact ends (after_needs64 (hk.partialWrite h _ _ _ _))
  case ll => exact ends (hk.loadLinked h _ _ _ _)
  case lld => exact ends (after_needs64 (hk.loadLinked h _ _ _ _))
  case sc => exact ends (hk.storeConditional h _ _ _)
  case scd => exact ends (after_needs64 (hk.storeConditional h _ _ _))
  case syscall | brk => exact ends (hk.raised h _)
  case tge | tgeu | tlt | tltu | teq | tne | tgei | tgeiu | tlti | tltiu | teqi | tnei => exact ends (hk.trapIf h _)
  case sync => exact ends_next h
  case cache => exact ends (hk.ifCop0 h h)
  case mfc0 => exact ends (hk.ifCop0 h ((hk.cop0Read h _).bind fun _ _ _ ht => hk.setGpr ht _ _))
  case dmfc0 => exact ends (after_needs64 (hk.ifCop0 h ((hk.cop0Read h _).bind fun _ _ _ ht => hk.setGpr ht _ _)))
  case mtc0 => exact ends (hk.ifCop0 h (hk.cop0Write h _ _))
  case dmtc0 => exact ends (after_needs64 (hk.ifCop0 h (hk.cop0Write h _ _)))
  case tlbwi =>
    refine ends (hk.ifCop0 h ?_)
    split
    · next hm => exact hk.tlbWrite h hm _
    · trivial
  case tlbwr => exact ends (hk.ifCop0 h trivial)
  case fpComputeS | fpComputeD | fpComputeW | fpComputeL => exact ends (hk.ifCop1 h trivial)
  case tlbr => exact ends (hk.ifCop0 h (hk.tlbRead h _))
  case tlbp =>
    refine ends (hk.ifCop0 h ?_)
    split
    · exact hk.index h _ (index_miss _)
    · next p hp => exact hk.index h _ (index_slot (tlbHits_slot (hp ▸ List.mem_singleton.2 rfl)))
    · trivial
  case eret => exact ends (after_needsNoSlot (hk.ifCop0 h (hk.eret h)))
  case cfc1 =>
    refine ends (hk.ifCop1 h ?_)
    repeat' split
    · exact hk.setGpr h _ _
    · exact hk.setGpr h _ _
    · trivial
  case ctc1 =>
    refine ends (hk.ifCop1 h ?_)
    repeat' split
    · trivial
    · trivial
    · exact hk.fcr31 h _
  case mfc1 => exact ends (hk.ifCop1 h (hk.setGpr h _ _))
  case dmfc1 => exact ends (after_needs64 (hk.ifCop1 h ((after_fpRead64 h _).bind fun _ _ _ ht => hk.setGpr ht _ _)))
  case mtc1 => exact ends (hk.ifCop1 h (hk.fpWrite32 h _ _))
  case dmtc1 => exact ends (after_needs64 (hk.ifCop1 h (hk.fpWrite64 h _ _)))
  case lwc1 => exact ends (hk.ifCop1 h ((hk.memRead h _ _).bind fun _ _ _ ht => hk.fpWrite32 ht _ _))
  case ldc1 => exact ends (hk.ifCop1 h ((hk.memRead h _ _).bind fun _ _ _ ht => hk.fpWrite64 ht _ _))
  case swc1 => exact ends (hk.ifCop1 h (hk.memWrite h _ _ _))
  case sdc1 => exact ends (hk.ifCop1 h ((after_fpRead64 h _).bind fun _ _ _ ht => hk.memWrite ht _ _ _))

end Kept
end

/-- What holds once the delay-slot flags are updated, and is kept, holds after the fetch. -/
theorem Kept.fetch {P : State → Prop} (hk : Kept P) {s : State} (h : P (beginStep s)) : (fetch s).After P :=
  (hk.takeInterrupt h).bind fun _ _ _ ht => hk.fetchAtPc ht

end Sys2Proof.Machine
end

section
/-! PROOFS. What one step can do (R60, R61), case by case, and the facts about the step that follow from it. -/

namespace Sys2Proof.Machine

/-! ## The equations of a step -/

theorem step_of_raised {s u : State} (hs : s.fatal = none) (h : fetch s = .raised u) : step s = tick 1 u := by
  unfold step; rw [hs, h]; rfl

theorem step_of_stop {s u : State} {r : FatalReason} (hs : s.fatal = none) (h : fetch s = .fatal r u) :
    step s = stops r u := by
  unfold step; rw [hs, h]; rfl

theorem step_of_decoded {s u : State} {w : Word} {i : Instr} (hs : s.fatal = none) (h : fetch s = .ok w u)
    (hd : decode w = .ok i) : step s = stepEnd (exec i u) := by
  unfold step; rw [hs, h]; simp only [hd]
  cases exec i u <;> rfl

theorem step_of_undecoded {s u : State} {w : Word} {e : DecodeError} (hs : s.fatal = none) (h : fetch s = .ok w u)
    (hd : decode w = .error e) : step s = stops .unknownOpcode u := by
  unfold step; rw [hs, h]; simp only [hd]; rfl

/-- A step that answers a next state took an exception at the fetch and ticked, or executed an instruction, counted and
ticked. -/
theorem step_eq_next {s t : State} (h : step s = .next t) :
    (∃ u, fetch s = .raised u ∧ tick 1 u = .next t) ∨
    ∃ w u i v, fetch s = .ok w u ∧ decode w = .ok i ∧ exec i u = .next v ∧ tick 1 (countUp v) = .next t := by
  cases hs : s.fatal with
  | some r => simp [step, hs] at h
  | none =>
    cases hf : fetch s with
    | raised u => exact .inl ⟨u, rfl, step_of_raised hs hf ▸ h⟩
    | fatal r u => rw [step_of_stop hs hf] at h; simp [stops] at h
    | ok w u =>
      cases hd : decode w with
      | error e => rw [step_of_undecoded hs hf hd] at h; simp [stops] at h
      | ok i =>
        rw [step_of_decoded hs hf hd] at h
        cases hx : exec i u with
        | next v => exact .inr ⟨w, u, i, v, rfl, hd, hx, by rw [hx] at h; exact h⟩
        | fault f => rw [hx] at h; simp [stepEnd] at h
        | refused r => rw [hx] at h; simp [stepEnd] at h

/-! ## Tick -/

/-- The loop of Tick answers a state that differs in what events change, or has no end; it never stops Fatal. -/
theorem tickLoop_cases (n : Nat) (s : State) :
    (∃ t, tickLoop n s = .next t ∧ TickFrame s t) ∨ ∃ u, tickLoop n s = .fault (.tickDiverges u) := by
  induction n generalizing s with
  | zero =>
    rw [tickLoop]
    split
    · exact .inl ⟨s, rfl, rfl⟩
    · split
      · exact .inl ⟨s, rfl, rfl⟩
      · exact .inr ⟨s, rfl⟩
  | succ n ih =>
    rw [tickLoop]
    split
    · exact .inl ⟨s, rfl, rfl⟩
    · next e q _ =>
      split
      · exact .inl ⟨s, rfl, rfl⟩
      · refine (ih (runEvent e.kind { s with queue := q })).imp_left ?_
        rintro ⟨t, ht, hf⟩
        exact ⟨t, ht, TickFrame.trans (runEvent_frame e.kind { s with queue := q }) hf⟩

theorem tick_frame {n : Nat} {s t : State} (h : tick n s = .next t) : TickFrame { s with now := s.now + n } t := by
  obtain ⟨u, hu, hf⟩ | ⟨u, hu⟩ := tickLoop_cases s.queue.length { s with now := s.now + n }
  · rw [tick, hu] at h; cases h; exact hf
  · rw [tick, hu] at h; cases h

theorem tick_ne_fatal {n : Nat} {s t : State} {r : FatalReason} : tick n s ≠ .fault (.fatal r t) := by
  obtain ⟨u, hu, -⟩ | ⟨u, hu⟩ := tickLoop_cases s.queue.length { s with now := s.now + n } <;> simp [tick, hu]

/-- From a state that has the invariant, Tick ends with nothing due. -/
theorem State.DataInv.tick {s t : State} (h : s.DataInv) {n : Nat} (ht : tick n s = .next t) : t.Inv := by
  obtain ⟨u, hu, hi, -⟩ := tickLoop_ends (h.advanceNow n) (List.length_filter_le _ _)
  have e : Host.Outcome.next u = .next t := hu.symm.trans ht
  cases e
  exact hi

/-! ## The machine invariant -/

theorem kept_dataInv : Kept State.DataInv where
  setGpr h := h.setGpr
  control h := h.control
  enter h := h.enterException
  eret h := h.returnFromException
  read h := h.afterBusRead
  write h := h.afterBusWrite
  linked h := h.linked
  cop0Write h := h.afterCop0Write
  index {s} h n i hi :=
    (h.setCop0 (c := { s.cop0 with index := i }) { h.cop0 with index := hi } rfl).control s.hi s.lo s.prevPc s.pc s.nextPc
      s.delaySlot s.prevDelaySlot s.llbit s.fgrs n
  fcr31 h v := h.setFcr31 (clear_and (by decide))
  tlbWrite h hm k := h.setTlb k.isLt (entryOfCop0_legal h.cop0 hm)
  tlbRead h k := h.setCop0 (cop0OfEntry_legal h.cop0 (h.slotLegal k.toNat k.isLt)) rfl

/-- Settles O59: fetch, instruction, count and tick each keep the invariant, and the tick leaves nothing due. -/
theorem stepKeepsInvariant : Obligations.StepKeepsInvariant := by
  intro s t ⟨h, _⟩ hs
  have hf : (fetch s).After State.DataInv := h.afterFetch
  obtain ⟨u, hu, ht⟩ | ⟨w, u, i, v, hu, -, hx, ht⟩ := step_eq_next hs
  · rw [hu] at hf
    have hu : u.DataInv := hf
    exact hu.tick ht
  · rw [hu] at hf
    have hv : v.DataInv := (kept_dataInv.exec hf i).of_next hx
    exact hv.countUp.tick ht

/-! ## The clock and the launch inputs -/

/-- `t` stands in the same cycle as `s`, of the same launch. -/
def SameClock (s t : State) : Prop := t.now = s.now ∧ t.inputs = s.inputs

theorem SameCpu.clock {s t u : State} (h : SameCpu t u) (g : SameClock s t) : SameClock s u :=
  ⟨h.now.trans g.1, h.inputs.trans g.2⟩

theorem after_busRead {P : State → Prop} {s : State} (h : ∀ t, SameCpu s t → P t) (pa : Word) (w : Width) :
    (busRead pa w s).After P := by
  cases hb : busRead pa w s with
  | ok v t => exact h t (busRead_same hb)
  | raised t => exact absurd hb busRead_ne_raised
  | fatal r t => trivial

theorem after_busWrite {P : State → Prop} {s : State} (h : ∀ t, SameCpu s t → P t) (pa : Word) (w : Width) (v : Dword) :
    (busWrite pa w v s).After P := by
  cases hb : busWrite pa w v s with
  | ok v t => exact h t (busWrite_same hb)
  | raised t => exact absurd hb busWrite_ne_raised
  | fatal r t => trivial

theorem kept_clock (s : State) : Kept (SameClock s) where
  setGpr h r v := ⟨by rw [setGpr_now]; exact h.1, by rw [setGpr_inputs]; exact h.2⟩
  control h _ _ _ _ _ _ _ _ _ _ := h
  enter h _ _ := h
  eret h := ⟨by rw [returnFromException_now]; exact h.1, by rw [returnFromException_inputs]; exact h.2⟩
  read h := after_busRead fun _ hu => hu.clock h
  write h _ _ _ := after_busWrite (fun _ hu => hu.clock h) _ _
  linked h _ _ := h
  cop0Write h n v := by
    unfold cop0Write
    split
    case h_22 => trivial
    all_goals exact h
  index h _ _ _ := h
  fcr31 h _ := h
  tlbWrite h _ _ := h
  tlbRead h _ := h

theorem tick_clock {s t u : State} {n : Nat} (h : SameClock s t) (ht : tick n t = .next u) :
    u.now = s.now + n ∧ u.inputs = s.inputs := by
  obtain ⟨hn, hi⟩ := h
  rw [tick_frame ht]
  exact ⟨congrArg (· + n) hn, hi⟩

/-- Settles O9: only the tick moves `now`, by one cycle, and nothing writes the inputs. -/
theorem stepAdvancesNowKeepsInputs : Obligations.StepAdvancesNowKeepsInputs := by
  intro s t hs
  have hf : (fetch s).After (SameClock s) := (kept_clock s).fetch ⟨rfl, rfl⟩
  obtain ⟨u, hu, ht⟩ | ⟨w, u, i, v, hu, -, hx, ht⟩ := step_eq_next hs
  · rw [hu] at hf
    exact tick_clock hf ht
  · rw [hu] at hf
    have hv : SameClock s v := ((kept_clock s).exec hf i).of_next hx
    exact tick_clock (t := countUp v) hv ht

/-! ## The Fatal mark -/

/-- The machine refuses no instruction: each is a computation. -/
theorem exec_outcome (i : Instr) (s : State) : ∃ m : Res Unit, exec i s = m.outcome := by
  obtain ⟨m, hm, -⟩ := (kept_clock s).exec ⟨rfl, rfl⟩ i
  exact ⟨m, hm⟩

/-- Settles O8: a stop sets the mark of its reason, and neither the count nor the tick after an instruction stops Fatal. -/
theorem fatalStateHasNoStep : Obligations.FatalStateHasNoStep := by
  constructor
  · intro s t hs h
    obtain ⟨r, hr⟩ := Option.ne_none_iff_exists'.1 hs
    simp [step, hr] at h
  · intro s t r h
    have stop : ∀ {q u}, stops q u = .fault (.fatal r t) → t.fatal = some r := by
      intro q u hu; cases hu; rfl
    cases hs : s.fatal with
    | some q =>
      simp only [step, hs] at h
      cases h; exact hs
    | none =>
      cases hf : fetch s with
      | raised u => exact absurd (step_of_raised hs hf ▸ h) tick_ne_fatal
      | fatal q u => exact stop (step_of_stop hs hf ▸ h)
      | ok w u =>
        cases hd : decode w with
        | error e => exact stop (step_of_undecoded hs hf hd ▸ h)
        | ok i =>
          obtain ⟨m, hm⟩ := exec_outcome i u
          rw [step_of_decoded hs hf hd, hm] at h
          cases m with
          | ok a v => exact absurd h tick_ne_fatal
          | raised v => exact absurd h tick_ne_fatal
          | fatal q v => exact stop h

end Sys2Proof.Machine
end

section
/-! PROOFS. The modes of Status and the segments of the address space (R42, R101 to R107). -/

namespace Sys2Proof.Machine

/-! ## Modes -/

theorem ksu_toNat (s : State) : s.ksu.toNat = s.cop0.status.toNat / 8 % 4 := by
  simp [State.ksu, BitVec.extractLsb'_toNat, Nat.shiftRight_eq_div_pow]

/-- What makes the mode kernel (R42): ERL, EXL, or KSU = 0. -/
def State.privileged (s : State) : Prop :=
  s.cop0.status.getLsbD 2 = true ∨ s.cop0.status.getLsbD 1 = true ∨ s.cop0.status.toNat / 8 % 4 = 0

theorem ksu_eq_iff (s : State) (n : BitVec 2) : s.ksu = n ↔ s.cop0.status.toNat / 8 % 4 = n.toNat := by
  rw [← ksu_toNat]; exact BitVec.toNat_inj.symm

theorem privileged_iff (s : State) : (s.erl || s.exl || s.ksu == 0#2) = true ↔ s.privileged := by
  simp only [State.privileged, State.erl, State.exl, Bool.or_eq_true, beq_iff_eq, or_assoc, ksu_eq_iff]
  rfl

theorem mode_kernel {s : State} (h : s.privileged) : s.mode = .kernel := if_pos ((privileged_iff s).2 h)

theorem mode_supervisor {s : State} (h : ¬ s.privileged) (hk : s.cop0.status.toNat / 8 % 4 = 1) : s.mode = .supervisor := by
  have h1 : (s.ksu == 1#2) = true := beq_iff_eq.2 ((ksu_eq_iff s _).2 hk)
  rw [State.mode, if_neg (mt (privileged_iff s).1 h), if_pos h1]

theorem mode_user {s : State} (h : ¬ s.privileged) (hk : s.cop0.status.toNat / 8 % 4 ≠ 1) : s.mode = .user := by
  have h1 : ¬ (s.ksu == 1#2) = true := fun e => hk ((ksu_eq_iff s _).1 (beq_iff_eq.1 e))
  rw [State.mode, if_neg (mt (privileged_iff s).1 h), if_neg h1]

theorem ext_kernel {s : State} (h : s.mode = .kernel) : s.ext = s.kx := by rw [State.ext, h]
theorem ext_supervisor {s : State} (h : s.mode = .supervisor) : s.ext = s.sx := by rw [State.ext, h]
theorem ext_user {s : State} (h : s.mode = .user) : s.ext = s.ux := by rw [State.ext, h]

/-! ## The low word of an address -/

theorem sext32_toNat (a : Word) :
    (sext32 a).toNat = if a.toNat < 0x80000000 then a.toNat else a.toNat + 0xFFFFFFFF00000000 := by
  have hw : a.toNat % 2 ^ 64 = a.toNat := Nat.mod_eq_of_lt (by omega)
  rw [sext32, BitVec.toNat_signExtend, BitVec.toNat_setWidth, hw, BitVec.msb_eq_decide]
  by_cases h : a.toNat < 0x80000000
  · simp [h]
  · simp [h, Nat.not_lt.1 h]

theorem lo32_toNat_mod (va : Dword) : (lo32 va).toNat = va.toNat % 0x100000000 := BitVec.toNat_setWidth _ _

/-- The 32-bit subset (R104): the addresses below 2^31, and the last 2^31 ones. -/
theorem eq_sext32_lo32 (va : Dword) :
    va = sext32 (lo32 va) ↔ va.toNat < 0x80000000 ∨ 0xFFFFFFFF80000000 ≤ va.toNat := by
  rw [← BitVec.toNat_inj, sext32_toNat, lo32_toNat_mod]
  have := va.isLt
  split <;> omega

theorem lo32_lt_iff {va : Dword} {c : Word} : lo32 va < c ↔ va.toNat % 0x100000000 < c.toNat := by
  rw [BitVec.lt_def, lo32_toNat_mod]

/-! ## Translation by segment -/

theorem addressError_eq (acc : Access) (va : Dword) :
    addressError acc va = if acc = .store then .addressErrorStore va else .addressErrorLoad va := by
  cases acc <;> rfl

section
variable {s : State} {va : Dword} {acc : Access} {w : Width}

theorem translate_misaligned (h : va.toNat % w.bytes ≠ 0) : translate s va acc w = .fault (addressError acc va) := if_pos h

theorem translate_outside (ha : va.toNat % w.bytes = 0) (h1 : 0x80000000 ≤ va.toNat) (h2 : va.toNat < 0xFFFFFFFF80000000) :
    translate s va acc w = if s.ext then .fatal .xaddr else .fault (addressError acc va) := by
  have hv : va ≠ sext32 (lo32 va) := by rw [ne_eq, eq_sext32_lo32]; omega
  unfold translate
  rw [if_neg (not_not.2 ha), if_pos hv]

/-- In the 32-bit subset the segment is that of the low word. -/
theorem translate_inside (ha : va.toNat % w.bytes = 0) (h : va.toNat < 0x80000000 ∨ 0xFFFFFFFF80000000 ≤ va.toNat) :
    translate s va acc w =
      if va.toNat < 0x80000000 then (if s.erl then .pa (lo32 va) else tlbTranslate s va acc)
      else if va.toNat < 0xFFFFFFFFA0000000 then
        (if s.mode = .kernel then .pa (lo32 va - 0x80000000#32) else .fault (addressError acc va))
      else if va.toNat < 0xFFFFFFFFC0000000 then
        (if s.mode = .kernel then .pa (lo32 va - 0xA0000000#32) else .fault (addressError acc va))
      else if va.toNat < 0xFFFFFFFFE0000000 then
        (if s.mode = .user then .fault (addressError acc va) else tlbTranslate s va acc)
      else (if s.mode = .kernel then tlbTranslate s va acc else .fault (addressError acc va)) := by
  have hx := va.isLt
  have c0 : lo32 va < 0x80000000#32 ↔ va.toNat < 0x80000000 := by rw [lo32_lt_iff]; simp only [BitVec.toNat_ofNat]; omega
  unfold translate
  rw [if_neg (not_not.2 ha), if_neg (not_not.2 ((eq_sext32_lo32 va).2 h))]
  by_cases h0 : va.toNat < 0x80000000
  · rw [if_pos h0, if_pos (c0.2 h0)]
  · have c1 : lo32 va < 0xA0000000#32 ↔ va.toNat < 0xFFFFFFFFA0000000 := by
      rw [lo32_lt_iff]; simp only [BitVec.toNat_ofNat]; omega
    have c2 : lo32 va < 0xC0000000#32 ↔ va.toNat < 0xFFFFFFFFC0000000 := by
      rw [lo32_lt_iff]; simp only [BitVec.toNat_ofNat]; omega
    have c3 : lo32 va < 0xE0000000#32 ↔ va.toNat < 0xFFFFFFFFE0000000 := by
      rw [lo32_lt_iff]; simp only [BitVec.toNat_ofNat]; omega
    simp only [c0, c1, c2, c3]

theorem lo32_sub_eq {c : Word} {n : Nat} (h : n ≤ va.toNat) (hc : c.toNat = n % 0x100000000) :
    lo32 va - c = BitVec.ofNat 32 (va.toNat - n) := by
  apply BitVec.eq_of_toNat_eq
  rw [BitVec.toNat_sub, lo32_toNat_mod, BitVec.toNat_ofNat, hc]
  omega

theorem translate_kuseg (ha : va.toNat % w.bytes = 0) (h : va.toNat < 0x80000000) :
    translate s va acc w = if s.erl then .pa (BitVec.ofNat 32 va.toNat) else tlbTranslate s va acc := by
  rw [translate_inside ha (.inl h), if_pos h]; rfl

theorem translate_kseg0 (ha : va.toNat % w.bytes = 0) (h1 : 0xFFFFFFFF80000000 ≤ va.toNat)
    (h2 : va.toNat < 0xFFFFFFFFA0000000) : translate s va acc w =
      if s.mode = .kernel then .pa (BitVec.ofNat 32 (va.toNat - 0xFFFFFFFF80000000)) else .fault (addressError acc va) := by
  rw [translate_inside ha (.inr h1), if_neg (by omega), if_pos h2, lo32_sub_eq h1 rfl]

theorem translate_kseg1 (ha : va.toNat % w.bytes = 0) (h1 : 0xFFFFFFFFA0000000 ≤ va.toNat)
    (h2 : va.toNat < 0xFFFFFFFFC0000000) : translate s va acc w =
      if s.mode = .kernel then .pa (BitVec.ofNat 32 (va.toNat - 0xFFFFFFFFA0000000)) else .fault (addressError acc va) := by
  rw [translate_inside ha (.inr (by omega)), if_neg (by omega), if_neg (by omega), if_pos h2, lo32_sub_eq h1 rfl]

theorem translate_ksseg (ha : va.toNat % w.bytes = 0) (h1 : 0xFFFFFFFFC0000000 ≤ va.toNat)
    (h2 : va.toNat < 0xFFFFFFFFE0000000) : translate s va acc w =
      if s.mode = .user then .fault (addressError acc va) else tlbTranslate s va acc := by
  rw [translate_inside ha (.inr (by omega)), if_neg (by omega), if_neg (by omega), if_neg (by omega), if_pos h2]

theorem translate_kseg3 (ha : va.toNat % w.bytes = 0) (h : 0xFFFFFFFFE0000000 ≤ va.toNat) : translate s va acc w =
      if s.mode = .kernel then tlbTranslate s va acc else .fault (addressError acc va) := by
  rw [translate_inside ha (.inr (by omega)), if_neg (by omega), if_neg (by omega), if_neg (by omega), if_neg (by omega)]

end

/-- Settles O35: one lemma for each segment, and one for each mode. -/
theorem translateSegments : Obligations.TranslateSegments := by
  intro s va acc w x go err st ksu privileged
  have he : err = .fault (addressError acc va) := congrArg _ (addressError_eq acc va).symm
  rw [he]
  refine ⟨fun h => ?_, fun h hk => ?_, fun h hk => ?_, translate_misaligned, fun ha =>
    ⟨translate_outside ha, translate_kuseg ha, translate_kseg0 ha, translate_kseg1 ha, translate_ksseg ha, translate_kseg3 ha⟩⟩
  · exact ⟨mode_kernel h, ext_kernel (mode_kernel h)⟩
  · exact ⟨mode_supervisor h hk, ext_supervisor (mode_supervisor h hk)⟩
  · have hu : s.mode = .user := mode_user h (show ksu ≠ 1 by omega)
    exact ⟨hu, ext_user hu⟩

end Sys2Proof.Machine
end

section
/-! PROOFS. The interrupt test, the entry at the general vector and the fetch (R61 to R63, R430). -/

namespace Sys2Proof.Machine

/-! ## Parts 1 to 3 of a step -/

theorem beginStep_eq (s : State) : beginStep s = afterFlags s := by
  have h : writeBit s.cop0.cause 15 true = s.cop0.cause ||| 0x8000#32 := rfl
  simp only [beginStep, afterFlags, State.timerMatch, beq_iff_eq, h]

theorem ne_zero_iff_bit {n : Nat} (x : BitVec n) : x ≠ 0#n ↔ ∃ k, k < n ∧ x.getLsbD k = true := by
  constructor
  · intro h
    by_contra hn
    push Not at hn
    exact h (BitVec.eq_of_getLsbD_eq fun k hk => by simpa using hn k hk)
  · rintro ⟨k, _, hk⟩ rfl
    simp at hk

theorem interruptPending_iff (s : State) : s.interruptPending = true ↔ interrupts s := by
  have hb : (s.ip &&& s.im) != 0#8 ↔ ∃ k, 8 ≤ k ∧ k < 16 ∧ s.cop0.cause.getLsbD k = true ∧ s.cop0.status.getLsbD k = true := by
    rw [bne_iff_ne, ne_zero_iff_bit]
    simp only [State.ip, State.im, BitVec.getLsbD_and, BitVec.getLsbD_extractLsb', Bool.and_eq_true, decide_eq_true_eq]
    constructor
    · rintro ⟨k, hk, ⟨-, hc⟩, -, hs⟩
      exact ⟨8 + k, by omega, by omega, hc, hs⟩
    · rintro ⟨k, h8, h16, hc, hs⟩
      have e : 8 + (k - 8) = k := by omega
      exact ⟨k - 8, by omega, ⟨by omega, (congrArg _ e).trans hc⟩, by omega, (congrArg _ e).trans hs⟩
  simp only [State.interruptPending, interrupts, Bool.and_eq_true, hb, State.ie, State.exl, State.erl, Bool.not_eq_true',
    and_assoc]

theorem takeInterrupt_none {s : State} (h : ¬ interrupts s) : takeInterrupt s = .ok () s :=
  if_neg (mt (interruptPending_iff s).1 h)

theorem takeInterrupt_bev {s : State} (h : interrupts s) (hb : s.cop0.status.getLsbD 22 = true) :
    takeInterrupt s = .fatal .bev s := by
  have hr : (raise .interrupt false s : Res Unit) = .fatal .bev s := if_pos hb
  rw [takeInterrupt, if_pos ((interruptPending_iff s).2 h), hr]

theorem takeInterrupt_entry {s : State} (h : interrupts s) (hb : s.cop0.status.getLsbD 22 = false) :
    takeInterrupt s = .ok () (enterException .interrupt false s) := by
  have hr : (raise .interrupt false s : Res Unit) = .raised (enterException .interrupt false s) :=
    raise_eq_raised.2 ⟨hb, rfl⟩
  rw [takeInterrupt, if_pos ((interruptPending_iff s).2 h), hr]
  rfl

/-! ## The fetch -/

theorem fetch_eq {s t : State} (h : takeInterrupt (afterFlags s) = .ok () t) : fetch s = fetchAtPc t := by
  rw [fetch, beginStep_eq, h]; rfl

theorem fetchAtPc_word {s u : State} {pa : Word} {v : Dword} (h : translate s s.pc .fetch .word = .pa pa)
    (hb : busRead pa .word s = .ok v u) : fetchAtPc s = .ok (lo32 v) (advance u) := by
  rw [fetchAtPc, h]; simp only [hb]; rfl

theorem fetchAtPc_fault {s : State} {k : Exc} (h : translate s s.pc .fetch .word = .fault k) :
    fetchAtPc s = raise k false s := by rw [fetchAtPc, h]

theorem fetchAtPc_fatal {s : State} {r : FatalReason} (h : translate s s.pc .fetch .word = .fatal r) :
    fetchAtPc s = .fatal r s := by rw [fetchAtPc, h]

/-- Settles O5: with no interrupt to take, the fetch stands at the PC. -/
theorem stepRunsDecodedInstruction : Obligations.StepRunsDecodedInstruction := by
  intro s u pa v i hs hi ht hb hd
  have hf : fetch s = .ok (lo32 v) (advance u) := (fetch_eq (takeInterrupt_none hi)).trans (fetchAtPc_word ht hb)
  exact step_of_decoded hs hf hd

/-- An exception entry does not count. -/
theorem enterException_count (k : Exc) (p : Bool) (s : State) : (enterException k p s).cop0.count = s.cop0.count := by
  cases h : s.exl
  · rw [enterException_cop0_fresh h, recordAddress_frame]
  · rw [enterException_cop0_nested h, recordAddress_frame]

/-- Settles O7: the fetch raises the fault of the translation, or stops with it. -/
theorem fetchFaultStep : Obligations.FetchFaultStep := by
  intro s hs hi fetched
  have hf : fetch s = fetchAtPc (afterFlags s) := fetch_eq (takeInterrupt_none hi)
  refine ⟨fun k hk hb => ⟨step_of_raised hs ?_, enterException_count k false _⟩, fun k hk hb => step_of_stop hs ?_,
    fun r hr => step_of_stop hs (hf.trans (fetchAtPc_fatal hr))⟩
  · rw [hf, fetchAtPc_fault hk]
    exact raise_eq_raised.2 ⟨hb, rfl⟩
  · rw [hf, fetchAtPc_fault hk]
    exact if_pos hb

/-! ## The handler -/

/-- A handler runs in kernel mode, so the general vector translates to physical address 0x180. -/
theorem translate_vector (k : Exc) (p : Bool) (s : State) :
    translate (enterException k p s) 0xFFFFFFFF80000180#64 .fetch .word = .pa 0x180#32 := by
  have hm : (enterException k p s).mode = .kernel :=
    mode_kernel (.inr (.inl (by rw [enterException_status, BitVec.getLsbD_or]; simp)))
  rw [translate_kseg0 (by decide) (by decide) (by decide), if_pos hm]
  rfl

theorem enterException_bd {s : State} (h : s.exl = false) (k : Exc) (p : Bool) :
    (enterException k p s).cop0.cause.getLsbD 31 = s.prevDelaySlot := by
  rw [enterException_cop0_fresh h, recordAddress_frame]
  simp only [causeWithCode, getLsbD_maskWrite]
  rw [if_neg (by decide), getLsbD_writeBit _ _ _ _ (by decide), if_pos rfl]

theorem enterException_epc {s : State} (h : s.exl = false) (k : Exc) :
    (enterException k false s).cop0.epc = if s.prevDelaySlot then s.pc - 4#64 else s.pc := by
  rw [enterException_cop0_fresh h, recordAddress_frame]; rfl

/-- Settles O6: the entry saves the resume point, since EXL is 0, and the same step goes on at the general vector. -/
theorem interruptedStepRunsHandler : Obligations.InterruptedStepRunsHandler := by
  intro s u v i hs hi
  have hx : (afterFlags s).exl = false := hi.2.2.1
  constructor
  · intro hb
    refine step_of_stop hs ?_
    rw [fetch, beginStep_eq, takeInterrupt_bev hi hb]
    rfl
  · intro hb e
    refine ⟨rfl, enterException_epc hx _, enterException_bd hx _ _, fun hr hd => ?_⟩
    have hf : fetch s = .ok (lo32 v) (advance u) :=
      (fetch_eq (takeInterrupt_entry hi hb)).trans (fetchAtPc_word (translate_vector _ _ _) hr)
    exact step_of_decoded hs hf hd

end Sys2Proof.Machine
end

section
/-! PROOFS. Register 0, the frame of the register instructions and the reads of COP0 (R21, R200, R361, R362, R366). -/

namespace Sys2Proof.Machine

/-! ## General registers -/

/-- A register write changes the register file only. -/
theorem setGpr_frame (s : State) (r : Reg) (v : Dword) : s.setGpr r v = { s with gprs := (s.setGpr r v).gprs } := by
  unfold State.setGpr; split <;> rfl

/-- Settles O10, from what a register reads as after a write and from the frame of a write. -/
theorem registerZero : Obligations.RegisterZero := fun s r q v =>
  ⟨gpr_zero s, if_pos rfl, gpr_setGpr s r q v, setGpr_frame s r v⟩

theorem gpr_setGpr_other (s : State) {r q : Reg} (v : Dword) (h : q ≠ r) : (s.setGpr r v).gpr q = s.gpr q := by
  rw [gpr_setGpr, if_neg h]
  split
  · next h0 => rw [h0, gpr_zero]
  · rfl

/-! ## The frame of the register instructions -/

/-- An instruction of 40_alu.md, MFHI or MFLO that goes on has written its destination. -/
theorem exec_gprTarget {i : Instr} {r : Reg} {s t : State} (h : gprTarget i = some r) (hx : exec i s = .next t) :
    ∃ v, t = s.setGpr r v := by
  cases i
  case add | addu | sub | subu | addi | addiu | slt | sltu | slti | sltiu | and | or | xor | nor | andi | ori | xori | lui
      | sll | srl | sra | sllv | srlv | srav | mfhi | mflo =>
    cases h; cases hx; exact ⟨_, rfl⟩
  case dadd | daddu | dsub | dsubu | daddi | daddiu | dsll | dsrl | dsra | dsll32 | dsrl32 | dsra32 | dsllv | dsrlv | dsrav =>
    cases h; exact ⟨_, (putGated_eq_next.1 hx).2⟩
  all_goals cases h

/-- What a gated write of HI and LO that goes on did. -/
theorem gatedHiLo_eq_next {s t : State} {a b : Dword} (h : (needs64 s (done (s.setHiLo a b))).outcome = .next t) :
    t = s.setHiLo a b := by
  obtain ⟨_, h⟩ | h := outcome_eq_next.1 h
  · exact done_eq_ok.1 (needs64_eq_ok.1 h).2
  · exact absurd (needs64_eq_raised.1 h).2 done_ne_raised

/-- A division that goes on was not at its edge. -/
theorem gatedDivision_eq_next {s t : State} {a b : Dword} {c : Prop} [Decidable c]
    (h : (needs64 s (if c then .fatal .ddivEdge s else done (s.setHiLo a b))).outcome = .next t) : t = s.setHiLo a b := by
  by_cases hc : c
  · rw [if_pos hc] at h
    obtain ⟨_, h⟩ | h := outcome_eq_next.1 h
    · simp [needs64_eq_ok] at h
    · simp [needs64_eq_raised] at h
  · rw [if_neg hc] at h
    exact gatedHiLo_eq_next h

/-- An instruction that writes HI or LO and goes on has written those. -/
theorem exec_writesHiLo {i : Instr} {s t : State} (h : writesHiLo i = true) (hx : exec i s = .next t) :
    ∃ a b, t = s.setHiLo a b := by
  cases i
  case mult | multu | div | divu | mthi | mtlo => cases hx; exact ⟨_, _, rfl⟩
  case dmult | dmultu => exact ⟨_, _, gatedHiLo_eq_next hx⟩
  case ddiv | ddivu => exact ⟨_, _, gatedDivision_eq_next hx⟩
  all_goals cases h

/-- Settles O22: a next state is that of one register write, or of one write of HI and LO. -/
theorem registerInstructionFrame : Obligations.RegisterInstructionFrame := by
  refine ⟨fun i r s t h hx => ?_, fun i s t h hx => ?_, fun r s t hx => ?_, fun r s t hx => ?_⟩
  · obtain ⟨v, rfl⟩ := exec_gprTarget h hx
    exact ⟨fun q hq => gpr_setGpr_other s v hq, setGpr_frame s r v, fun a => by rw [setGpr_mem]⟩
  · obtain ⟨a, b, rfl⟩ := exec_writesHiLo h hx
    exact ⟨rfl, fun _ => rfl⟩
  · cases hx; rfl
  · cases hx; rfl

/-! ## Reads of COP0 -/

/-- MFC0 of a register that a read gives writes its low word, sign-extended. -/
theorem exec_mfc0 {s t : State} {n : BitVec 5} {v : Dword} (hu : s.usable0) (rt : Reg) (h : cop0Read n s = .ok v t) :
    exec (.mfc0 rt n) s = .next (t.setGpr rt ((v.setWidth 32).signExtend 64)) := by
  change execMfc0 rt n s = _
  rw [execMfc0, needsCop0_open hu, h]; rfl

theorem exec_dmfc0 {s t : State} {n : BitVec 5} {v : Dword} (hu : s.usable0) (he : s.enabled64) (rt : Reg)
    (h : cop0Read n s = .ok v t) : exec (.dmfc0 rt n) s = .next (t.setGpr rt v) := by
  change execDmfc0 rt n s = _
  rw [execDmfc0, needs64_open he, needsCop0_open hu, h]; rfl

/-- Random is a draw from Wired, or from 0, to 31 (R31). -/
theorem randomRead_range (s : State) : (randomRead s).1.toNat ≤ 31 ∧
    (s.cop0.wired.toNat % 64 ≤ 31 → s.cop0.wired.toNat % 64 ≤ (randomRead s).1.toNat) := by
  have hd : ∀ lo ≤ 31, ∀ d, d % (32 - lo) < 32 - lo := fun lo h d => Nat.mod_lt d (by omega)
  simp only [randomRead, BitVec.toNat_setWidth, BitVec.toNat_ofNat]
  generalize s.draw.1.toNat = d
  split
  · have := hd 0 (by decide) d
    omega
  · have := hd (s.cop0.wired.toNat % 2 ^ 6) (by omega) d
    omega

theorem count_word (c : BitVec 33) : c.extractLsb' 1 32 = BitVec.ofNat 32 (c.toNat / 2) := by
  apply BitVec.eq_of_toNat_eq
  rw [BitVec.extractLsb'_toNat, BitVec.toNat_ofNat, Nat.shiftRight_eq_div_pow]

/-- A value of at most 31 is its own sign-extended low word. -/
theorem low_word_small {v : Dword} (h : v.toNat ≤ 31) : (v.setWidth 32).signExtend 64 = v :=
  ((eq_sext32_lo32 v).2 (.inl (by omega))).symm

/-- Settles O41: each register reads by its arm of `cop0Read`, and Random is the one read that draws. -/
theorem cop0Reads : Obligations.Cop0Reads := by
  intro s rt hu c reads word random
  have read : ∀ {n v}, cop0Read n s = .ok v s → reads n v := fun h =>
    ⟨exec_mfc0 hu rt h, fun he => exec_dmfc0 hu he rt h⟩
  have hr : cop0Read 1#5 s = .ok (randomRead s).1 (randomRead s).2 := rfl
  obtain ⟨h31, hw⟩ := randomRead_range s
  refine ⟨read rfl, read rfl, read rfl, read rfl, read rfl, read rfl, read rfl, ?_, read rfl, read rfl, read rfl, read rfl,
    read rfl, read rfl, read rfl, read rfl, read rfl, read rfl, read rfl, read rfl, ?_, fun he => ?_⟩
  · rw [← count_word]; exact read rfl
  · exact ⟨_, low_word_small h31 ▸ exec_mfc0 hu rt hr, h31, hw⟩
  · exact ⟨_, exec_dmfc0 hu he rt hr, h31, hw⟩

end Sys2Proof.Machine
end

section
/-! PROOFS. The lookup of the TLB (R108 to R112). -/

namespace Sys2Proof.Machine

/-! ## Matching entries -/

/-- Words agree under a page mask exactly when they agree in every bit that the mask of the entry leaves from bit 13 on. -/
theorem pageMask_eq_iff (mask a b : Word) :
    a &&& ~~~(mask ||| 0x1FFF#32) = b &&& ~~~(mask ||| 0x1FFF#32) ↔
      ∀ k, 13 ≤ k → k < 32 → mask.getLsbD k = false → a.getLsbD k = b.getLsbD k := by
  have low : ∀ k < 32, (0x1FFF#32).getLsbD k = decide (k < 13) := by decide
  constructor
  · intro h k h13 h32 hm
    have hk := congrArg (fun x => x.getLsbD k) h
    simpa only [BitVec.getLsbD_and, BitVec.getLsbD_not, BitVec.getLsbD_or, low k h32, hm, h32, decide_true,
      decide_eq_false (Nat.not_lt.2 h13), Bool.or_false, Bool.not_false, Bool.and_true] using hk
  · intro h
    refine BitVec.eq_of_getLsbD_eq fun k hk => ?_
    have hb := h k
    simp only [BitVec.getLsbD_and, BitVec.getLsbD_not, BitVec.getLsbD_or, low k hk]
    cases hm : mask.getLsbD k
    · by_cases h13 : k < 13
      · simp [h13]
      · rw [hb (by omega) hk hm]
    · simp

theorem lo32_getLsbD (va : Dword) {k : Nat} (h : k < 32) : (lo32 va).getLsbD k = va.getLsbD k := by
  simp [lo32, h]

/-- The model's test of a slot is the match of R108. -/
theorem covers_iff (s : State) (va : Dword) (i : Fin 32) :
    s.tlb[i].covers (lo32 va) (s.cop0.entryHi.setWidth 8) = true ↔ tlbMatch s va i := by
  have bits : (∀ k, 13 ≤ k → k < 32 → s.tlb[i].mask.getLsbD k = false →
        (lo32 va).getLsbD k = (lo32 s.tlb[i].vpn2).getLsbD k) ↔
      ∀ k, 13 ≤ k → k < 32 → s.tlb[i].mask.getLsbD k = false → va.getLsbD k = s.tlb[i].vpn2.getLsbD k :=
    forall₃_congr fun k _ hk => by rw [lo32_getLsbD va hk, lo32_getLsbD _ hk]
  simp only [TlbEntry.covers, tlbMatch, Bool.and_eq_true, Bool.or_eq_true, beq_iff_eq, pageMask_eq_iff, bits, and_assoc,
    BitVec.setWidth_eq_extractLsb' (show 8 ≤ 64 by decide)]

/-- The hits of a lookup are the slots that match. -/
theorem mem_tlbHits {s : State} {va : Dword} {p : TlbEntry × Nat} :
    p ∈ tlbHits s (lo32 va) ↔ ∃ i : Fin 32, p = (s.tlb[i], i.val) ∧ tlbMatch s va i := by
  obtain ⟨e, n⟩ := p
  rw [tlbHits, List.mem_filter, List.mk_mem_zipIdx_iff_getElem?, List.getElem?_eq_some_iff]
  constructor
  · rintro ⟨⟨hn, rfl⟩, hc⟩
    have hs : n < 32 := by simpa using hn
    exact ⟨⟨n, hs⟩, rfl, (covers_iff s va ⟨n, hs⟩).1 hc⟩
  · rintro ⟨i, h, hi⟩
    cases h
    exact ⟨by simp, (covers_iff s va i).2 hi⟩

theorem tlbHits_nodup (s : State) (a : Word) : (tlbHits s a).Nodup :=
  (List.Nodup.of_map Prod.snd s.tlb.toList.nodup_zipIdx_map_snd).filter _

/-! ## The outcome of a lookup -/

theorem tlbTranslate_miss {s : State} {va : Dword} (h : ∀ i, ¬ tlbMatch s va i) (acc : Access) :
    tlbTranslate s va acc = .fault (tlbMiss acc va) := by
  have hits : tlbHits s (lo32 va) = [] :=
    List.eq_nil_iff_forall_not_mem.2 fun p hp => by
      obtain ⟨i, -, hi⟩ := mem_tlbHits.1 hp
      exact h i hi
  rw [tlbTranslate, hits]

theorem tlbTranslate_multi {s : State} {va : Dword} {i j : Fin 32} (hij : i ≠ j) (hi : tlbMatch s va i)
    (hj : tlbMatch s va j) (acc : Access) : tlbTranslate s va acc = .fatal .tlbMulti := by
  have mi := mem_tlbHits.2 ⟨i, rfl, hi⟩
  have mj := mem_tlbHits.2 ⟨j, rfl, hj⟩
  have hne : ((s.tlb[i], i.val) : TlbEntry × Nat) ≠ (s.tlb[j], j.val) := fun h => hij (Fin.ext (congrArg Prod.snd h))
  rw [tlbTranslate]
  match h : tlbHits s (lo32 va) with
  | [] => simp [h] at mi
  | [p] =>
    rw [h, List.mem_singleton] at mi mj
    exact absurd (mi.trans mj.symm) hne
  | _ :: _ :: _ => rfl

theorem tlbTranslate_hit {s : State} {va : Dword} {i : Fin 32} (hi : tlbMatch s va i)
    (hu : ∀ j, tlbMatch s va j → j = i) (acc : Access) : tlbTranslate s va acc = tlbUse s.tlb[i] va acc := by
  have hits : tlbHits s (lo32 va) = [(s.tlb[i], i.val)] := by
    refine List.perm_singleton.1 ((List.perm_ext_iff_of_nodup (tlbHits_nodup s _) (List.nodup_singleton _)).2 fun p => ?_)
    rw [mem_tlbHits, List.mem_singleton]
    constructor
    · rintro ⟨j, rfl, hj⟩
      rw [hu j hj]
    · rintro rfl
      exact ⟨i, rfl, hi⟩
  rw [tlbTranslate, hits]

/-- The frame bits of a half, above the page offset (R110). -/
theorem frame_eq (lo : Word) : (lo.extractLsb' 6 20).setWidth 32 <<< 12 = BitVec.ofNat 32 (lo.toNat / 64 % 2 ^ 20 * 4096) := by
  apply BitVec.eq_of_toNat_eq
  simp [BitVec.extractLsb'_toNat, Nat.shiftRight_eq_div_pow, Nat.shiftLeft_eq]

theorem half_eq (e : TlbEntry) (a : Word) :
    e.half a = if a &&& (e.offsetMask + 1#32) = 0#32 then e.lo0 else e.lo1 := by
  rw [TlbEntry.half]
  by_cases h : a &&& (e.offsetMask + 1#32) = 0#32 <;> simp [h]

/-- Settles O36: the hits of the lookup are the matching slots, each once. -/
theorem tlbTranslation : Obligations.TlbTranslation := by
  intro s va acc go
  have miss : tlbMiss acc va = if acc = .store then .tlbMissStore va else .tlbMissLoad va := by cases acc <;> rfl
  have invalid : tlbInvalid acc va = if acc = .store then .tlbInvalidStore va else .tlbInvalidLoad va := by cases acc <;> rfl
  refine ⟨fun h => miss ▸ tlbTranslate_miss h acc, fun i j hij hi hj => tlbTranslate_multi hij hi hj acc,
    fun i hi hu => ?_⟩
  intro a off lo frame
  have hlo : s.tlb[i].half (lo32 va) = lo := half_eq _ _
  have hpa : s.tlb[i].physical (lo32 va) = (frame &&& ~~~off) ||| (a &&& off) := by
    rw [TlbEntry.physical, hlo, frame_eq]; rfl
  have hgo : go = tlbUse s.tlb[i] va acc := tlbTranslate_hit hi hu acc
  rw [hgo, tlbUse, hlo, hpa, invalid]
  cases lo.getLsbD 1 <;> rfl

end Sys2Proof.Machine
end

section
/-! PROOFS. The address of a load or store comes first (R115, R116, R311): every load and store is a computation that goes on
from its data access. -/

namespace Sys2Proof.Machine

/-- `m` starts with the data access of kind `acc` and width `w` at `va`. -/
def Accesses (va : Dword) (acc : Access) (w : Width) (s : State) (m : Res Unit) : Prop :=
  ∃ f : Word → State → Res Unit, m = (dataAddr va acc w s).bind f

theorem Res.bind_assoc {α β γ : Type} (m : Res α) (f : α → State → Res β) (g : β → State → Res γ) :
    (m.bind f).bind g = m.bind fun a t => (f a t).bind g := by
  cases m <;> rfl

theorem raise_bind {α β : Type} (k : Exc) (p : Bool) (s : State) (f : α → State → Res β) :
    (raise k p s).bind f = raise k p s := by
  unfold raise; cases s.bev <;> rfl

section
variable {s : State} {va : Dword} {acc : Access} {w : Width} {m : Res Unit}

theorem Accesses.of_bind {β : Type} (f : Word → State → Res β) (g : β → State → Res Unit) :
    Accesses va acc w s (((dataAddr va acc w s).bind f).bind g) := ⟨_, Res.bind_assoc _ _ _⟩

theorem accesses_memRead (f : Dword → State → Res Unit) : Accesses va .load w s ((memRead va w s).bind f) := .of_bind _ _

theorem accesses_memWrite (v : Dword) : Accesses va .store w s (memWrite va w v s) := ⟨_, rfl⟩

theorem accesses_load (rt : Reg) (f : Dword → Dword) : Accesses va .load w s (load va w rt f s) := .of_bind _ _

theorem accesses_loadPart (rt : Reg) (f : Dword → Dword) : Accesses va .load .byte s (loadPart va w rt f s) := .of_bind _ _

theorem accesses_partialWrite (mask bits : Dword) : Accesses va .store .byte s (partialWrite va w mask bits s) := ⟨_, rfl⟩

theorem accesses_loadLinked (rt : Reg) (f : Dword → Dword) : Accesses va .load w s (loadLinked va w rt f s) := ⟨_, rfl⟩

theorem accesses_storeConditional (rt : Reg) : Accesses va .store w s (storeConditional va w rt s) := ⟨_, rfl⟩

theorem Accesses.needs64 (h : s.enabled64) (ha : Accesses va acc w s m) : Accesses va acc w s (needs64 s m) := by
  rwa [needs64_open h]

theorem Accesses.needsCop1 (h : s.usable1) (ha : Accesses va acc w s m) : Accesses va acc w s (needsCop1 s m) := by
  rwa [needsCop1_open h]

/-! A data access that does not go on ends the computation. -/

theorem Accesses.endian (h : Accesses va acc w s m) (he : ¬ s.endianOk) : m.outcome = stops .reverseEndian s := by
  obtain ⟨f, rfl⟩ := h
  rw [dataAddr_endian he]; rfl

theorem Accesses.fault (h : Accesses va acc w s m) (he : s.endianOk) {k : Exc} (ht : translate s va acc w = .fault k) :
    m.outcome = takes k s := by
  obtain ⟨f, rfl⟩ := h
  rw [dataAddr_fault he ht, raise_bind, raise_outcome, takes]

theorem Accesses.fatal (h : Accesses va acc w s m) (he : s.endianOk) {r : FatalReason}
    (ht : translate s va acc w = .fatal r) : m.outcome = stops r s := by
  obtain ⟨f, rfl⟩ := h
  rw [dataAddr_fatal he ht]; rfl

end

/-- With its gates open, a load or store starts with its data access. -/
theorem exec_accesses {i : Instr} {s : State} {base : Reg} {offset : Imm} {acc : Access} {w : Width}
    (h : accessOf i = some (base, offset, acc, w)) (hg : gatesOpen i s) :
    ∃ m, exec i s = m.outcome ∧ Accesses (s.address base offset) acc w s m := by
  rw [← effAddr_eq]
  obtain ⟨h64, h1, hd⟩ := hg
  cases i <;> cases h
  case lb | lbu | lh | lhu | lw => exact ⟨_, rfl, accesses_load _ _⟩
  case lwu | ld => exact ⟨_, rfl, (accesses_load _ _).needs64 (h64 rfl)⟩
  case lwl | lwr => exact ⟨_, rfl, accesses_loadPart _ _⟩
  case ldl | ldr => exact ⟨_, rfl, (accesses_loadPart _ _).needs64 (h64 rfl)⟩
  case sb | sh | sw => exact ⟨_, rfl, accesses_memWrite _⟩
  case sd => exact ⟨_, rfl, (accesses_memWrite _).needs64 (h64 rfl)⟩
  case swl | swr => exact ⟨_, rfl, accesses_partialWrite _ _⟩
  case sdl | sdr => exact ⟨_, rfl, (accesses_partialWrite _ _).needs64 (h64 rfl)⟩
  case ll => exact ⟨_, rfl, accesses_loadLinked _ _⟩
  case lld => exact ⟨_, rfl, (accesses_loadLinked _ _).needs64 (h64 rfl)⟩
  case sc => exact ⟨_, rfl, accesses_storeConditional _⟩
  case scd => exact ⟨_, rfl, (accesses_storeConditional _).needs64 (h64 rfl)⟩
  case lwc1 | ldc1 => exact ⟨_, rfl, (accesses_memRead _).needsCop1 (h1 rfl)⟩
  case swc1 => exact ⟨_, rfl, (accesses_memWrite _).needsCop1 (h1 rfl)⟩
  case sdc1 ft =>
    refine ⟨_, rfl, Accesses.needsCop1 (h1 rfl) ?_⟩
    rw [fpRead64_whole (hd _ _ _ rfl)]
    exact accesses_memWrite _

/-- Settles O34: a load or store starts with its data access, and ends with it when that does not translate. -/
theorem dataFaults : Obligations.DataFaults := by
  intro i s base offset acc w h hg va
  obtain ⟨m, hx, ha⟩ := exec_accesses h hg
  rw [hx]
  exact ⟨ha.endian, fun k he ht => ha.fault he ht, fun r he ht => ha.fatal he ht⟩

end Sys2Proof.Machine
end

section
/-! PROOFS. The windows of the physical address space, and the reads and writes of the bus by window (R117 to R125, R470). -/

namespace Sys2Proof.Machine

/-! ## Windows (R118, R119) -/

theorem windowRanges_eq (r : RdramSize) : windowRanges r = windowTable r := by cases r <;> rfl

/-- The table is in rising order: each window ends before the next begins. -/
theorem windowTable_rising (r : RdramSize) : (windowTable r).Pairwise fun x y => x.2.2 < y.2.1 := by cases r <;> decide

theorem windowTable_disjoint {r : RdramSize} {a : Nat} {x y : Window × Nat × Nat} (hx : x ∈ windowTable r)
    (hy : y ∈ windowTable r) (hxa : x.2.1 ≤ a ∧ a ≤ x.2.2) (hya : y.2.1 ≤ a ∧ a ≤ y.2.2) : x = y := by
  have apart : ∀ x y : Window × Nat × Nat, x.2.2 < y.2.1 → x.2.1 ≤ a ∧ a ≤ x.2.2 → ¬ (y.2.1 ≤ a ∧ a ≤ y.2.2) :=
    fun _ _ _ _ _ => by omega
  have hr := windowTable_rising r
  exact List.Pairwise.forall_of_forall_of_flip (R := fun x y => x.2.1 ≤ a ∧ a ≤ x.2.2 → y.2.1 ≤ a ∧ a ≤ y.2.2 → x = y)
    (fun _ _ _ _ => rfl) (hr.imp fun h hx hy => absurd hy (apart _ _ h hx)) (hr.imp fun h hy hx => absurd hy (apart _ _ h hx))
    hx hy hxa hya

/-- An address is claimed by the window whose range holds it. -/
theorem windowOf_eq_some_iff {r : RdramSize} {a b : Nat} {w : Window} :
    windowOf r a = some (w, b) ↔ ∃ last, (w, b, last) ∈ windowTable r ∧ b ≤ a ∧ a ≤ last := by
  refine ⟨windowOf_eq_some, fun ⟨last, hm, ha⟩ => ?_⟩
  cases h : windowOf r a with
  | none =>
    rw [windowOf, Option.map_eq_none_iff, List.find?_eq_none] at h
    exact absurd (by simpa using ha) (h _ hm)
  | some y =>
    obtain ⟨last', hm', ha'⟩ := windowOf_eq_some h
    cases windowTable_disjoint hm hm' ha ha'
    rfl

/-- Settles O48: the table rises, so no address stands in two of its ranges. -/
theorem windowsAreDisjoint : Obligations.WindowsAreDisjoint := by
  intro r a
  rw [windowRanges_eq]
  exact ⟨fun x hx y hy h1 h2 h3 h4 => windowTable_disjoint hx hy ⟨h1, h2⟩ ⟨h3, h4⟩, fun w b => windowOf_eq_some_iff⟩

theorem windowOf_cart {a : Nat} (r : RdramSize) (h : inCart a) : windowOf r a = some (.cart, 0x10000000) :=
  windowOf_eq_some_iff.2 ⟨0x1FBFFFFF, by simp [windowTable], h⟩

/-! ## Reads and writes by window -/

section
variable {s : State} {pa : Word}

theorem busRead_unmapped (h : windowOf s.inputs.rdram pa.toNat = none) (w : Width) :
    busRead pa w s = .fatal .busUnmapped s := by rw [busRead, h]

theorem busWrite_unmapped (h : windowOf s.inputs.rdram pa.toNat = none) (w : Width) (v : Dword) :
    busWrite pa w v s = .fatal .busUnmapped s := by rw [busWrite, h]

theorem busRead_cart_dword (h : inCart pa.toNat) : busRead pa .dword s = .fatal .busWidth s := by
  rw [busRead, windowOf_cart _ h]; rfl

theorem busRead_cart (h : inCart pa.toNat) {w : Width} (hw : w ≠ .dword) : busRead pa w s =
    .ok (cartRead (pa.toNat - 0x10000000) w.bytes s).1 (cartRead (pa.toNat - 0x10000000) w.bytes s).2 := by
  rw [busRead, windowOf_cart _ h]
  exact if_neg hw

theorem busWrite_cart (h : inCart pa.toNat) (w : Width) (v : Dword) : busWrite pa w v s = .fatal .romWrite s := by
  rw [busWrite, windowOf_cart _ h]; rfl

/-- The register windows are no byte arrays and not the cartridge. -/
theorem registerWindow {win : Window} (h : win ∈ [Window.spRegs, .spPcRegs, .mi, .vi, .ai, .pi, .ri, .si]) :
    isByteWindow win = false ∧ win ≠ .cart := by
  revert win; decide

theorem busRead_register_width (h : inRegisters s pa.toNat) {w : Width} (hw : w ≠ .word) :
    busRead pa w s = .fatal .busWidth s := by
  obtain ⟨win, base, hwin, hm⟩ := h
  obtain ⟨hb, hc⟩ := registerWindow hm
  simp [busRead, hwin, hb, hc, hw]

theorem busWrite_register_width (h : inRegisters s pa.toNat) {w : Width} (hw : w ≠ .word) (v : Dword) :
    busWrite pa w v s = .fatal .busWidth s := by
  obtain ⟨win, base, hwin, hm⟩ := h
  obtain ⟨hb, hc⟩ := registerWindow hm
  simp [busWrite, hwin, hb, hc, hw]

end

theorem Width.bytes_le (w : Width) : w.bytes ≤ 8 := by cases w <;> decide

/-- Settles O49: one lemma for each kind of window. -/
theorem busReads : Obligations.BusReads := by
  intro s pa w a n
  refine ⟨fun h => busRead_unmapped h w, fun h => ⟨_, busRead_bytes h w, Memory.readBE_bigEndian _ _ w.bytes_le⟩,
    fun h hw => hw ▸ busRead_cart_dword h, fun h hw => ⟨_, _, busRead_cart h hw, cartRead_frame _ _ s,
      cartRead_lt _ _ s w.bytes_le, cartRead_byte _ _ s w.bytes_le, cartRead_in _ _ s⟩,
    fun h hw => busRead_register_width h hw⟩

/-! ## Stores to memory -/

/-- The bytes after a store, each a byte of the value stored. -/
theorem Memory.read_stored {m : Memory} (h : m.wf = true) (a n : Nat) (v : Dword) (x : Nat) :
    (m.writeBE a n v).read x =
      if a ≤ x ∧ x < a + n then v.extractLsb' (8 * (a + n - 1 - x)) 8 else m.read x :=
  Memory.read_writeBE h a n x v

/-- An aligned store covers the last byte of PIF RAM exactly when it ends there. -/
theorem covers_trigger_iff {a : Nat} {w : Width} (ha : a % w.bytes = 0) :
    (a ≤ pifTrigger ∧ pifTrigger < a + w.bytes) ↔ a + w.bytes = 0x1FC00800 := by
  unfold pifTrigger
  rcases w.bytes_cases with h | h | h | h <;> rw [h] at ha ⊢ <;> omega

/-- Settles O50: a store is plain, or SERIAL_PROC then runs on the bytes it leaves in PIF RAM. -/
theorem busWrites : Obligations.BusWrites := by
  intro s pa w v a n byteAfter
  refine ⟨fun h => busWrite_unmapped h w v, fun hm hwf ha =>
    ⟨_, busWrite_bytes hm w v, storeBytes_wf a w v hwf, fun ht => ?_, fun ht => ?_⟩,
    fun h => busWrite_cart h w v, fun h hw => busWrite_register_width h hw v⟩
  · rw [storeBytes_plain (mt (covers_trigger_iff ha).1 ht)]
    exact ⟨rfl, Memory.read_stored hwf a n v⟩
  · have hb : pifBytes (s.mem.writeBE a n v) = (List.range 64).map fun i => byteAfter (0x1FC007C0 + i) :=
      List.map_congr_left fun i _ => Memory.read_stored hwf a n v (pifBase + i)
    rw [storeBytes_trigger ((covers_trigger_iff ha).2 ht)]
    refine ⟨runSerial_frame _, fun x => ?_⟩
    rw [runSerial_mem, pifFill_read _ _ _ (Memory.wf_writeBE hwf _ _ _), ← hb]
    refine if_ctx_congr Iff.rfl (fun _ => rfl) fun hx => ?_
    have hn : n ≤ 8 := w.bytes_le
    rw [Memory.read_stored hwf, if_neg (by omega)]

end Sys2Proof.Machine
end

section
/-! PROOFS. The registers of DEV and the effects of a call (R126, R472, R473). -/

namespace Sys2Proof.Machine

/-! ## Registers of DEV -/

/-- The registers of DEV stand in register windows, each at its offset from the window's first address. -/
theorem devRegisters_place (r : RdramSize) : ∀ d ∈ devRegisters, ∀ off ∈ d.2.2,
    windowOf r (d.2.1 + off) = some (d.1, d.2.1) ∧ isByteWindow d.1 = false ∧ d.1 ≠ .cart ∧ d.2.1 + off < 2 ^ 32 := by
  cases r <;> decide

/-- No other rule gives the registers of DEV a meaning: an access is a call. -/
theorem device_devRegister {win : Window} {base off : Nat} {offsets : List Nat} (hd : (win, base, offsets) ∈ devRegisters)
    (ho : off ∈ offsets) (v : Word) (s : State) :
    deviceRead win base off s = devCall win base off .read s ∧ deviceWrite win base off v s = devStore win base off v s := by
  fin_cases hd <;> fin_cases ho <;> exact ⟨rfl, rfl⟩

theorem busAccess_devRegister {win : Window} {base off : Nat} {offsets : List Nat}
    (hd : (win, base, offsets) ∈ devRegisters) (ho : off ∈ offsets) (v : Dword) (s : State) :
    busRead (BitVec.ofNat 32 (base + off)) .word s =
      (devCall win base off .read s).bind (fun x t => .ok (x.setWidth 64) t) ∧
    busWrite (BitVec.ofNat 32 (base + off)) .word v s =
      (devCall win base off (.write (v.setWidth 32)) s).bind fun _ t => done t := by
  obtain ⟨hw, hb, hc, hlt⟩ := devRegisters_place s.inputs.rdram _ hd off ho
  obtain ⟨hread, hwrite⟩ := device_devRegister hd ho (lo32 v) s
  have hpa : (BitVec.ofNat 32 (base + off)).toNat = base + off := BitVec.toNat_ofNat _ _ ▸ Nat.mod_eq_of_lt hlt
  exact ⟨(busRead_register hpa hw hb hc).trans (hread ▸ rfl), (busWrite_register v hpa hw hb hc).trans hwrite⟩

/-! ## Where memory lies -/

theorem windowTable_memory (r : RdramSize) : ∀ x ∈ windowTable r,
    (x.1 = .rdram → x.2.2 < rdramBytes r) ∧ (x.1 = .spDmem ∨ x.1 = .spImem → 0x04000000 ≤ x.2.1 ∧ x.2.2 < 0x04002000) ∧
    (x.1 = .pifRam → 0x1FC007C0 ≤ x.2.1 ∧ x.2.2 < 0x1FC00800) := by
  cases r <;> decide

/-- The range of a byte-array window holds the addresses it claims. -/
theorem windowOf_memory {r : RdramSize} {a b : Nat} {w : Window} (h : windowOf r a = some (w, b)) :
    (w = .rdram → a < rdramBytes r) ∧ (w = .spDmem ∨ w = .spImem → 0x04000000 ≤ a ∧ a < 0x04002000) ∧
    (w = .pifRam → 0x1FC007C0 ≤ a ∧ a < 0x1FC00800) := by
  obtain ⟨last, hm, hb, hl⟩ := windowOf_eq_some h
  obtain ⟨hram, hsp, hpif⟩ := windowTable_memory r _ hm
  exact ⟨fun hw => hl.trans_lt (hram hw), fun hw => ⟨(hsp hw).1.trans hb, hl.trans_lt (hsp hw).2⟩,
    fun hw => ⟨(hpif hw).1.trans hb, hl.trans_lt (hpif hw).2⟩⟩

/-! ## The effects of a call -/

/-- Memory is written as an SP DMA or an SI DMA only (R472). -/
theorem devMayWrite_cases {win : Window} {off a : Nat} {r : RdramSize} (h : devMayWrite win off (windowOf r a) = true) :
    (win = .spRegs ∧ (off = 8 ∨ off = 12) ∧ (a < rdramBytes r ∨ 0x04000000 ≤ a ∧ a < 0x04002000)) ∨
    (win = .si ∧ (a < rdramBytes r ∨ 0x1FC007C0 ≤ a ∧ a < 0x1FC00800)) := by
  unfold devMayWrite at h
  split at h
  · next w b hw =>
    obtain ⟨hram, hsp, -⟩ := windowOf_memory hw
    simp only [Bool.and_eq_true, Bool.or_eq_true, beq_iff_eq, or_assoc] at h
    obtain ⟨ho, ht⟩ := h
    exact .inl ⟨rfl, ho, ht.imp hram hsp⟩
  · next w b hw =>
    obtain ⟨hram, -, hpif⟩ := windowOf_memory hw
    simp only [Bool.or_eq_true, beq_iff_eq] at h
    exact .inr ⟨rfl, h.imp hram hpif⟩
  · cases h

/-- A bit of MI_INTR changes by its own window, or is the DP bit and set. -/
theorem devIntr_cases (win : Window) (ans : DevAnswer) (x : BitVec 6) (k : Nat) :
    (devIntr win ans x).getLsbD k = x.getLsbD k ∨ (k = 1 ∧ win = .si) ∨ (k = 2 ∧ win = .ai) ∨
      (k = 5 ∧ (devIntr win ans x).getLsbD 5 = true) := by
  by_cases h5 : k = 5 ∧ ans.dpIntr = true
  · exact .inr (.inr (.inr ⟨h5.1, by rw [getLsbD_devIntr, if_pos ⟨rfl, h5.2⟩]⟩))
  · by_cases h2 : k = 2 ∧ win = .ai
    · exact .inr (.inr (.inl h2))
    · by_cases h1 : k = 1 ∧ win = .si
      · exact .inr (.inl h1)
      · exact .inl (by rw [getLsbD_devIntr, if_neg h5, if_neg h2, if_neg h1])

/-- Settles O55: the registers of DEV go to a call, and a call makes the effects of its answer that R472 allows. -/
theorem devEffectsLimited : Obligations.DevEffectsLimited := by
  refine ⟨fun win base offsets off s v hd ho => ?_, fun s win base off op hwf => ?_⟩
  · obtain ⟨hread, hwrite⟩ := busAccess_devRegister hd ho v s
    rw [hread, hwrite]
    constructor
    · cases devCall win base off .read s <;> rfl
    · cases devCall win base off (.write (v.setWidth 32)) s <;> rfl
  · refine (devCall_cases win base off op s).imp_right fun h => ⟨_, _, h, ?_⟩
    refine ⟨rfl, ⟨rfl, recompute_cause _⟩, devWrites_wf _ _ _ _ hwf, fun k _ => devIntr_cases win _ _ k, fun a => ?_⟩
    cases ha : devMayWrite win off (windowOf s.inputs.rdram a) with
    | false => exact .inl (devWrites_read _ hwf ha)
    | true => exact .inr (devMayWrite_cases ha)

end Sys2Proof.Machine
end

section
/-! PROOFS. A word decodes to an instruction exactly when its used bits are the encoder's word (R161 to R173). -/

namespace Sys2Proof

variable {w : Word} {op funct : BitVec 6} {rs rt rd sa : BitVec 5} {imm : Imm} {i : Instr}

/-! ## The fields of a masked word -/

@[simp] theorem fieldOpcode_and (w m : Word) : fieldOpcode (w &&& m) = fieldOpcode w &&& m.extractLsb' 26 6 :=
  BitVec.extractLsb'_and

@[simp] theorem fieldRs_and (w m : Word) : fieldRs (w &&& m) = fieldRs w &&& m.extractLsb' 21 5 := BitVec.extractLsb'_and

@[simp] theorem fieldRt_and (w m : Word) : fieldRt (w &&& m) = fieldRt w &&& m.extractLsb' 16 5 := BitVec.extractLsb'_and

@[simp] theorem fieldRd_and (w m : Word) : fieldRd (w &&& m) = fieldRd w &&& m.extractLsb' 11 5 := BitVec.extractLsb'_and

@[simp] theorem fieldSa_and (w m : Word) : fieldSa (w &&& m) = fieldSa w &&& m.extractLsb' 6 5 := BitVec.extractLsb'_and

@[simp] theorem fieldFunct_and (w m : Word) : fieldFunct (w &&& m) = fieldFunct w &&& m.extractLsb' 0 6 :=
  BitVec.extractLsb'_and

@[simp] theorem fieldImm_and (w m : Word) : fieldImm (w &&& m) = fieldImm w &&& m.extractLsb' 0 16 :=
  BitVec.extractLsb'_and

/-! A full mask keeps a word or field whole; `simp` needs the mask as the numeral it computes. -/

@[simp] theorem and_fullWord (w : Word) : w &&& 0xFFFFFFFF#32 = w := BitVec.and_allOnes

@[simp] theorem and_fullImm (x : Imm) : x &&& 0xFFFF#16 = x := BitVec.and_allOnes

@[simp] theorem and_full6 (x : BitVec 6) : x &&& 0x3F#6 = x := Laws.EncodingFitsTable.and_ones6 x

@[simp] theorem and_full5 (x : BitVec 5) : x &&& 0x1F#5 = x := Laws.EncodingFitsTable.and_ones5 x

/-! `co` is bit 4 of `rs` (R172), and BC1 is selected by `rt[1:0]` (R173). -/

@[simp] theorem and_bit4_iff : rs &&& 0x10#5 = 0x10#5 ↔ rs.getLsbD 4 = true := by revert rs; decide

theorem fieldCo_eq (w : Word) : fieldCo w = (fieldRs w).getLsbD 4 := by simp [fieldCo, fieldRs]

theorem fieldCo_iff (w : Word) : fieldCo w = true ↔ 16 ≤ (fieldRs w).toNat := by
  rw [fieldCo_eq]; generalize fieldRs w = rs; revert rs; decide

theorem and_low2_iff {k : BitVec 2} : rt &&& 0x03#5 = k.setWidth 5 ↔ rt.setWidth 2 = k := by revert rt k; decide

/-! ## A word has a layout exactly when its fields are those of the layout (R162) -/

@[simp] theorem eq_layoutR_iff : w = layoutR op rs rt rd sa funct ↔
    fieldOpcode w = op ∧ fieldRs w = rs ∧ fieldRt w = rt ∧ fieldRd w = rd ∧ fieldSa w = sa ∧ fieldFunct w = funct := by
  constructor
  · rintro rfl; simp
  · rintro ⟨rfl, rfl, rfl, rfl, rfl, rfl⟩; exact (layoutR_fields w).symm

@[simp] theorem eq_layoutI_iff :
    w = layoutI op rs rt imm ↔ fieldOpcode w = op ∧ fieldRs w = rs ∧ fieldRt w = rt ∧ fieldImm w = imm := by
  constructor
  · rintro rfl; simp
  · rintro ⟨rfl, rfl, rfl, rfl⟩; exact (layoutI_fields w).symm

@[simp] theorem eq_layoutJ_iff {index : BitVec 26} :
    w = layoutJ op index ↔ fieldOpcode w = op ∧ fieldIndex w = index := by
  constructor
  · rintro rfl; simp
  · rintro ⟨rfl, rfl⟩; exact (layoutJ_fields w).symm

theorem layoutCode_fields (h : fieldOpcode w = 0x00#6) : layoutCode (fieldCode w) (fieldFunct w) = w := by
  rw [layoutCode, ← h]
  ext j hj
  simp [fieldCode, fieldFunct, fieldOpcode]
  grind

@[simp] theorem eq_layoutCode_iff {code : BitVec 20} :
    w = layoutCode code funct ↔ fieldOpcode w = 0x00#6 ∧ fieldCode w = code ∧ fieldFunct w = funct := by
  constructor
  · rintro rfl; simp
  · rintro ⟨h, rfl, rfl⟩; exact (layoutCode_fields h).symm

theorem layoutTcode_fields (h : fieldOpcode w = 0x00#6) :
    layoutTcode (fieldRs w) (fieldRt w) (fieldTcode w) (fieldFunct w) = w := by
  rw [layoutTcode, ← h]
  ext j hj
  simp [fieldTcode, fieldFunct, fieldRs, fieldRt, fieldOpcode]
  grind

@[simp] theorem eq_layoutTcode_iff {code : BitVec 10} : w = layoutTcode rs rt code funct ↔
    fieldOpcode w = 0x00#6 ∧ fieldRs w = rs ∧ fieldRt w = rt ∧ fieldTcode w = code ∧ fieldFunct w = funct := by
  constructor
  · rintro rfl; simp
  · rintro ⟨h, rfl, rfl, rfl, rfl⟩; exact (layoutTcode_fields h).symm

/-! ## From the used bits to the instruction -/

/-- The used bits hold the selectors, which pick the instruction's arm of its map, and the operands. -/
theorem decode_of_and_usedBits (h : w &&& usedBits i = encode i) : decode w = .ok i := by
  cases i
  all_goals simp [usedBits, encode] at h
  all_goals casesm* _ ∧ _; subst_vars
  case sll | srl | sra | sllv | srlv | srav | jr | jalr | syscall | brk | sync | mfhi | mthi | mflo | mtlo | dsllv | dsrlv
      | dsrav | mult | multu | div | divu | dmult | dmultu | ddiv | ddivu | add | addu | sub | subu | and | or | xor | nor
      | slt | sltu | dadd | daddu | dsub | dsubu | tge | tgeu | tlt | tltu | teq | tne | dsll | dsrl | dsra | dsll32 | dsrl32
      | dsra32 => rw [decode_special ‹_›, decodeSpecial, ‹fieldFunct w = _›]; rfl
  case bltz | bgez | bltzl | bgezl | tgei | tgeiu | tlti | tltiu | teqi | tnei | bltzal | bgezal | bltzall | bgezall =>
    rw [decode_regimm ‹_›, decodeRegimm, ‹fieldRt w = _›]; rfl
  case mfc0 | dmfc0 | mtc0 | dmtc0 => rw [decode_cop0 ‹_›, fieldCo_eq, decodeCop0Move, ‹fieldRs w = _›]; rfl
  case tlbr | tlbwi | tlbwr | tlbp | eret =>
    rw [decode_cop0 ‹_›, fieldCo_eq, if_pos ‹_›, decodeCop0Function, ‹fieldFunct w = _›]; rfl
  case mfc1 | dmfc1 | cfc1 | mtc1 | dmtc1 | ctc1 | fpComputeS | fpComputeD | fpComputeW | fpComputeL =>
    rw [decode_cop1 ‹_›, decodeCop1, ‹fieldRs w = _›]; rfl
  case bc1f => exact decode_bc1f ‹_› ‹_› (and_low2_iff.1 ‹_›)
  case bc1t => exact decode_bc1t ‹_› ‹_› (and_low2_iff.1 ‹_›)
  case bc1fl => exact decode_bc1fl ‹_› ‹_› (and_low2_iff.1 ‹_›)
  case bc1tl => exact decode_bc1tl ‹_› ‹_› (and_low2_iff.1 ‹_›)
  -- every other instruction is selected by its opcode alone
  all_goals rw [decode, ‹fieldOpcode w = _›]; rfl

/-! ## From the instruction to the used bits, map by map (R169 to R173) -/

theorem and_usedBits_of_decodeSpecial (ho : fieldOpcode w = 0x00#6) (h : decodeSpecial w = .ok i) :
    w &&& usedBits i = encode i := by
  unfold decodeSpecial at h
  split at h <;> cases h
  all_goals simp [usedBits, encode, BitVec.toNat_eq (x := fieldFunct w), *]

theorem and_usedBits_of_decodeRegimm (ho : fieldOpcode w = 0x01#6) (h : decodeRegimm w = .ok i) :
    w &&& usedBits i = encode i := by
  unfold decodeRegimm at h
  split at h <;> cases h
  all_goals simp [usedBits, encode, BitVec.toNat_eq (x := fieldRt w), *]

theorem and_usedBits_of_decodeCop0Function (ho : fieldOpcode w = 0x10#6) (hc : fieldCo w = true)
    (h : decodeCop0Function w = .ok i) : w &&& usedBits i = encode i := by
  rw [fieldCo_eq] at hc
  unfold decodeCop0Function at h
  split at h <;> cases h
  all_goals simp [usedBits, encode, BitVec.toNat_eq (x := fieldFunct w), *]

theorem and_usedBits_of_decodeCop0Move (ho : fieldOpcode w = 0x10#6) (h : decodeCop0Move w = .ok i) :
    w &&& usedBits i = encode i := by
  unfold decodeCop0Move at h
  split at h <;> cases h
  all_goals simp [usedBits, encode, BitVec.toNat_eq (x := fieldRs w), *]

theorem and_usedBits_decodeBc1 (ho : fieldOpcode w = 0x11#6) (hs : fieldRs w = 0x08#5) :
    w &&& usedBits (decodeBc1 w) = encode (decodeBc1 w) := by
  have values : ∀ k : BitVec 2, k = 0#2 ∨ k = 1#2 ∨ k = 2#2 ∨ k = 3#2 := by decide
  obtain h | h | h | h := values ((fieldRt w).setWidth 2)
  all_goals simpa [decodeBc1, h, usedBits, encode, ho, hs] using and_low2_iff.2 h

theorem and_usedBits_of_decodeCop1 (ho : fieldOpcode w = 0x11#6) (h : decodeCop1 w = .ok i) :
    w &&& usedBits i = encode i := by
  unfold decodeCop1 at h
  split at h <;> cases h
  case h_7.refl hs => exact and_usedBits_decodeBc1 ho (BitVec.eq_of_toNat_eq hs)
  all_goals simp [usedBits, encode, BitVec.toNat_eq (x := fieldRs w), *]

theorem and_usedBits_of_decode (h : decode w = .ok i) : w &&& usedBits i = encode i := by
  unfold decode at h
  split at h
  case h_1 ho => exact and_usedBits_of_decodeSpecial (BitVec.eq_of_toNat_eq ho) h
  case h_2 ho => exact and_usedBits_of_decodeRegimm (BitVec.eq_of_toNat_eq ho) h
  case h_17 ho =>
    split at h
    case isTrue hc => exact and_usedBits_of_decodeCop0Function (BitVec.eq_of_toNat_eq ho) hc h
    case isFalse => exact and_usedBits_of_decodeCop0Move (BitVec.eq_of_toNat_eq ho) h
  case h_18 ho => exact and_usedBits_of_decodeCop1 (BitVec.eq_of_toNat_eq ho) h
  all_goals cases h
  all_goals simp [usedBits, encode, BitVec.toNat_eq (x := fieldOpcode w), *]

/-! ## The decoder and the encoder agree -/

theorem decode_eq_ok_iff : decode w = .ok i ↔ w &&& usedBits i = encode i :=
  ⟨and_usedBits_of_decode, decode_of_and_usedBits⟩

/-- The encoder sets no ignored bit. -/
theorem encode_and_usedBits (i : Instr) : encode i &&& usedBits i = encode i := by
  cases i <;> simp [usedBits, encode]

/-- Settles O1: the used bits of the encoder's word are that word. -/
theorem decodeEncodeRoundTrip : Obligations.DecodeEncodeRoundTrip :=
  fun i => decode_eq_ok_iff.2 (encode_and_usedBits i)

/-- Settles O2: whether a word decodes to `i` rests on its used bits only. -/
theorem ignoredBitsDoNotMatter : Obligations.IgnoredBitsDoNotMatter := by
  intro w i h
  rw [decode_eq_ok_iff] at h
  exact ⟨h.symm, fun w' hw' => decode_eq_ok_iff.2 (hw'.trans h)⟩

/-- Settles O3: each word by what its selectors decode to. -/
theorem sampleWordsDecode : Obligations.SampleWordsDecode :=
  ⟨decode_addiu rfl, decode_addu rfl rfl, decode_divu rfl rfl, decode_bnel rfl, decode_jal rfl, decode_sw rfl,
    decode_mtc0 rfl rfl rfl, decode_eret rfl rfl rfl, decode_ldc1 rfl, decode_fpComputeS rfl rfl⟩

/-! ## The words marked `*` (R166) -/

theorem decodeSpecial_unknown_iff : (∀ i, decodeSpecial w ≠ .ok i) ↔
    (fieldFunct w).toNat ∈ [0x01, 0x05, 0x0A, 0x0B, 0x0E, 0x15, 0x28, 0x29, 0x35, 0x37, 0x39, 0x3D] := by
  unfold decodeSpecial
  have := (fieldFunct w).isLt
  interval_cases (fieldFunct w).toNat <;> simp

theorem decodeRegimm_unknown_iff : (∀ i, decodeRegimm w ≠ .ok i) ↔ (fieldRt w).toNat ∉
    [0x00, 0x01, 0x02, 0x03, 0x08, 0x09, 0x0A, 0x0B, 0x0C, 0x0E, 0x10, 0x11, 0x12, 0x13] := by
  unfold decodeRegimm
  have := (fieldRt w).isLt
  interval_cases (fieldRt w).toNat <;> simp

theorem decodeCop0Move_unknown_iff : (∀ i, decodeCop0Move w ≠ .ok i) ↔ (fieldRs w).toNat ∉ [0, 1, 4, 5] := by
  unfold decodeCop0Move
  have := (fieldRs w).isLt
  interval_cases (fieldRs w).toNat <;> simp

theorem decodeCop0Function_unknown_iff :
    (∀ i, decodeCop0Function w ≠ .ok i) ↔ (fieldFunct w).toNat ∉ [0x01, 0x02, 0x06, 0x08, 0x18] := by
  unfold decodeCop0Function
  have := (fieldFunct w).isLt
  interval_cases (fieldFunct w).toNat <;> simp

theorem decodeCop1_unknown_iff :
    (∀ i, decodeCop1 w ≠ .ok i) ↔ (fieldRs w).toNat ∉ [0, 1, 2, 4, 5, 6, 8, 16, 17, 20, 21] := by
  unfold decodeCop1
  have := (fieldRs w).isLt
  interval_cases (fieldRs w).toNat <;> simp

theorem fieldOpcode_toNat (w : Word) : (fieldOpcode w).toNat = w.toNat / 2 ^ 26 := by
  simp [fieldOpcode, Nat.shiftRight_eq_div_pow]; omega

theorem fieldRs_toNat (w : Word) : (fieldRs w).toNat = w.toNat / 2 ^ 21 % 32 := by
  simp [fieldRs, Nat.shiftRight_eq_div_pow]

theorem fieldRt_toNat (w : Word) : (fieldRt w).toNat = w.toNat / 2 ^ 16 % 32 := by
  simp [fieldRt, Nat.shiftRight_eq_div_pow]

theorem fieldFunct_toNat (w : Word) : (fieldFunct w).toNat = w.toNat % 64 := by
  simp [fieldFunct]

/-- COP0 is two maps, and `co` says which one a word is looked up in (R172). -/
theorem cop0_unknown_iff : (∀ i, (if fieldCo w then decodeCop0Function w else decodeCop0Move w) ≠ .ok i) ↔
    (¬ fieldCo w ∧ ∀ i, decodeCop0Move w ≠ .ok i) ∨ (fieldCo w ∧ ∀ i, decodeCop0Function w ≠ .ok i) := by
  cases fieldCo w <;> simp

/-- A word is unknown when its opcode is marked `*` or the map its opcode selects marks its other selector. -/
theorem decode_unknown_iff (w : Word) : (∀ i, decode w ≠ .ok i) ↔ unknownWord w := by
  simp only [unknownWord, ← fieldOpcode_toNat, ← fieldRs_toNat, ← fieldRt_toNat, ← fieldFunct_toNat,
    ← decodeSpecial_unknown_iff, ← decodeRegimm_unknown_iff, ← decodeCop0Move_unknown_iff,
    ← decodeCop0Function_unknown_iff, ← decodeCop1_unknown_iff, ← fieldCo_iff, ← not_le]
  unfold decode
  have := (fieldOpcode w).isLt
  interval_cases (fieldOpcode w).toNat <;> simp [cop0_unknown_iff]

/-- Settles O4: the step decodes the word it fetched, and an unknown word decodes to an error. -/
theorem unknownWordsAreFatal : Obligations.UnknownWordsAreFatal := by
  refine ⟨decode_unknown_iff, fun s t w hs hf hw => ?_⟩
  cases hd : decode w with
  | ok i => exact absurd hd ((decode_unknown_iff w).2 hw i)
  | error e => exact Machine.step_of_undecoded hs hf hd

end Sys2Proof
end

section
/-! PROOFS. The 64-bit gate (R167). -/

namespace Sys2Proof.Machine

/-- A 64-bit instruction is a computation behind the gate. -/
theorem exec_gated {i : Instr} (h : is64 i = true) (s : State) : ∃ m : Res Unit, exec i s = (needs64 s m).outcome := by
  cases i <;> cases h <;> exact ⟨_, rfl⟩

/-- Settles O21: behind a closed gate nothing runs. -/
theorem gate64IsFatal : Obligations.Gate64IsFatal := by
  intro i s hi hs
  obtain ⟨m, hm⟩ := exec_gated hi s
  rw [hm, needs64_closed hs]
  rfl

end Sys2Proof.Machine
end

section
/-! PROOFS. Integer arithmetic, logic, shifts and set: each instruction writes the exact result of its rule (R200 to R241). -/

namespace Sys2Proof.Machine

/-! ## Writing an exact result (R200, R202) -/

theorem putGpr_eq {s : State} {r : Reg} {x v : Dword} (h : x = v) : putGpr r x s = .next (s.setGpr r v) := by
  rw [putGpr, h]

theorem putWord_eq {s : State} {r : Reg} {x : Word} {n : Int} (h : x.toInt = n.bmod (2 ^ 32)) :
    putWord r x s = .next (s.setGpr r (wordResult n)) :=
  putGpr_eq (wordResult_eq h).symm

theorem putGated_eq {s : State} {r : Reg} {x : Dword} {n : Int} (hs : s.enabled64)
    (h : x.toInt = n.bmod (2 ^ 64)) :
    putGated r x s = .next (s.setGpr r (dwordResult n)) := by
  rw [putGated_open hs, dwordResult_eq h]

/-! ## Operands (R163) -/

theorem lo32_simm_toInt (i : Imm) : (lo32 (simm i)).toInt = i.toInt := by
  have h : lo32 (simm i) = i.signExtend 32 := by
    rw [lo32, simm]
    ext k hk
    grind
  rw [h, BitVec.toInt_signExtend_of_le (by decide)]

theorem dwordResult_imm (i : Imm) : dwordResult i.toInt = simm i := rfl

theorem getLsbD_zimm (i : Imm) {k : Nat} (h : k < 64) : (zimm i).getLsbD k = (decide (k < 16) && i.getLsbD k) := by
  by_cases h16 : k < 16
  · simp [zimm, h, h16]
  · simp [zimm, h16, BitVec.getLsbD_of_ge i k (by omega)]

/-- LUI's value: appending 16 zero bits multiplies by 2^16 (R226). -/
theorem upperImm_eq (i : Imm) : upperImm i = wordResult (i.toInt * 65536) := by
  rw [upperImm, ← wordResult_toInt, BitVec.toInt_append_zero, mul_comm]; rfl

theorem amount5_eq (v : Dword) : amount5 v = v.toNat % 32 := BitVec.toNat_setWidth 5 v

theorem amount6_eq (v : Dword) : amount6 v = v.toNat % 64 := BitVec.toNat_setWidth 6 v

/-! ## Comparisons (R215) -/

theorem truth_slt (x y : Dword) : truth (x.slt y) = if x.toInt < y.toInt then 1#64 else 0#64 := by
  simp [truth, BitVec.slt]

theorem truth_ult (x y : Dword) : truth (x.ult y) = if x.toNat < y.toNat then 1#64 else 0#64 := by
  simp [truth, BitVec.ult]

/-! ## Shifts of any width as arithmetic modulo 2^w -/

section

variable {w : Nat} (x : BitVec w) (n : Nat)

theorem shiftLeft_toInt : (x <<< n).toInt = ((x.toNat : Int) * 2 ^ n).bmod (2 ^ w) := by
  rw [BitVec.toInt_shiftLeft, Nat.shiftLeft_eq]; push_cast; rfl

theorem ushiftRight_toInt : (x >>> n).toInt = ((x.toNat / 2 ^ n : Nat) : Int).bmod (2 ^ w) := by
  rw [BitVec.toInt_eq_toNat_bmod, BitVec.toNat_ushiftRight, Nat.shiftRight_eq_div_pow]

theorem sshiftRight_toInt : (x.sshiftRight n).toInt = (x.toInt / 2 ^ n).bmod (2 ^ w) := by
  rw [BitVec.sshiftRight, BitVec.toInt_ofInt, Int.shiftRight_eq_div_pow]; push_cast; rfl

end

/-! ## The instructions -/

/-- Settles O11: word sums and differences are exact modulo 2^32, and the immediate keeps its value in a word. -/
theorem wordAddAndSubtract : Obligations.WordAddAndSubtract := by
  intro s rs rt rd imm
  have sum := BitVec.toInt_add (lo32 (s.gpr rs)) (lo32 (s.gpr rt))
  have difference := BitVec.toInt_sub (x := lo32 (s.gpr rs)) (y := lo32 (s.gpr rt))
  have sumImm := BitVec.toInt_add (lo32 (s.gpr rs)) (lo32 (simm imm))
  rw [lo32_simm_toInt] at sumImm
  exact ⟨putWord_eq sum, putWord_eq sum, putWord_eq difference, putWord_eq difference, putWord_eq sumImm,
    putWord_eq sumImm⟩

/-- Settles O12: the same modulo 2^64, behind the open gate. -/
theorem dwordAddAndSubtract : Obligations.DwordAddAndSubtract := by
  intro s rs rt rd imm hs
  have sum := BitVec.toInt_add (s.gpr rs) (s.gpr rt)
  have difference := BitVec.toInt_sub (x := s.gpr rs) (y := s.gpr rt)
  have sumImm := BitVec.toInt_add (s.gpr rs) (simm imm)
  rw [simm_toInt] at sumImm
  exact ⟨putGated_eq hs sum, putGated_eq hs sum, putGated_eq hs difference, putGated_eq hs difference,
    putGated_eq hs sumImm, putGated_eq hs sumImm⟩

/-- Settles O13, from what `truth` writes; SLTIU compares with the 64 bits of the sign-extended immediate. -/
theorem setOnLessThan : Obligations.SetOnLessThan := by
  intro s rs rt rd imm
  rw [dwordResult_imm, ← simm_toInt]
  exact ⟨putGpr_eq (truth_slt _ _), putGpr_eq (truth_ult _ _), putGpr_eq (truth_slt _ _), putGpr_eq (truth_ult _ _)⟩

/-- Settles O14: the written value is the operation on 64-bit vectors, so it has that operation's bits. -/
theorem logicalOperations : Obligations.LogicalOperations := by
  intro s rs rt rd imm
  refine ⟨⟨_, rfl, fun k _ => BitVec.getLsbD_and⟩, ⟨_, rfl, fun k _ => BitVec.getLsbD_or⟩,
    ⟨_, rfl, fun k _ => BitVec.getLsbD_xor⟩, ⟨_, rfl, fun k hk => ?nor⟩, ⟨_, rfl, fun k hk => ?andi⟩,
    ⟨_, rfl, fun k hk => ?ori⟩, ⟨_, rfl, fun k hk => ?xori⟩, putGpr_eq (upperImm_eq imm)⟩
  case nor => simp [hk]
  case andi => rw [BitVec.getLsbD_and, getLsbD_zimm imm hk, Bool.and_assoc]
  case ori => rw [BitVec.getLsbD_or, getLsbD_zimm imm hk]
  case xori => rw [BitVec.getLsbD_xor, getLsbD_zimm imm hk, Bool.bne_eq_xor]

/-- Settles O15: each shift is that of the low word, by `sa` or by bits 4:0 of `rs`. -/
theorem wordShifts : Obligations.WordShifts := by
  intro s rs rt rd sa x y n
  have hn : n = amount5 (s.gpr rs) := (amount5_eq _).symm
  rw [hn]
  have left k := putWord_eq (s := s) (r := rd) (shiftLeft_toInt (lo32 (s.gpr rt)) k)
  have right k := putWord_eq (s := s) (r := rd) (ushiftRight_toInt (lo32 (s.gpr rt)) k)
  have arith k := putWord_eq (s := s) (r := rd) (sshiftRight_toInt (lo32 (s.gpr rt)) k)
  simp only [lo32_toNat] at left right
  exact ⟨left _, right _, arith _, left _, right _, arith _⟩

/-- Settles O16: each shift is that of the whole register, by `sa`, `sa + 32` or bits 5:0 of `rs`. -/
theorem dwordShifts : Obligations.DwordShifts := by
  intro s rs rt rd sa hs x y n
  have hn : n = amount6 (s.gpr rs) := (amount6_eq _).symm
  rw [hn]
  have left k := putGated_eq (r := rd) hs (shiftLeft_toInt (s.gpr rt) k)
  have right k := putGated_eq (r := rd) hs (ushiftRight_toInt (s.gpr rt) k)
  have arith k := putGated_eq (r := rd) hs (sshiftRight_toInt (s.gpr rt) k)
  exact ⟨left _, right _, arith _, left _, right _, arith _, left _, right _, arith _⟩

end Sys2Proof.Machine
end

section
/-! PROOFS. Multiply, divide and the HI/LO moves: each instruction puts the exact result of its rule in HI and LO (R260 to
R277). -/

namespace Sys2Proof.Machine

/-- Settles O20: each move is its one assignment. -/
theorem hiLoMoves : Obligations.HiLoMoves := fun _ _ => ⟨rfl, rfl, rfl, rfl⟩

/-! ## Results of unsigned and of signed operations -/

theorem wordResult_toNat (x : Word) : wordResult (x.toNat : Int) = sext32 x := wordResult_eq x.toInt_eq_toNat_bmod

theorem dwordResult_toNat (x : Dword) : dwordResult (x.toNat : Int) = x := dwordResult_eq x.toInt_eq_toNat_bmod

theorem dwordResult_toInt (x : Dword) : dwordResult x.toInt = x := x.ofInt_toInt

/-! ## The product: what R260 makes of the vector that holds it -/

/-- A slice of the vector of an integer is that integer's floor quotient modulo 2^len: what the vector drops of the
integer is a multiple of 2^w, so of 2^len after the shift. -/
theorem extractLsb'_ofInt_toInt {w start len : Nat} (h : start + len ≤ w) (n : Int) :
    ((BitVec.ofInt w n).extractLsb' start len).toInt = (n / 2 ^ start).bmod (2 ^ len) := by
  obtain ⟨k, rfl⟩ := Nat.exists_eq_add_of_le h
  have kept : ((BitVec.ofInt (start + len + k) n).toNat : Int) =
      n - 2 ^ start * (2 ^ len * (2 ^ k * (n / 2 ^ (start + len + k)))) := by
    rw [BitVec.toNat_ofInt, Int.toNat_of_nonneg (Int.emod_nonneg _ (by positivity)), Int.emod_def]
    push_cast
    ring
  rw [BitVec.toInt_extractLsb', Nat.shiftRight_eq_div_pow, Int.natCast_ediv, kept]
  push_cast
  rw [Int.sub_mul_ediv_left _ _ (by positivity)]
  exact_mod_cast Int.sub_mul_bmod_self_left _ (2 ^ len) _

/-- The word halves of a product that is `n` modulo 2^64. -/
theorem putWordProduct_eq (s : State) {p : BitVec 64} {n : Int} (h : p = BitVec.ofInt 64 n) :
    putWordProduct p s = .next { s with hi := wordResult (n / 2 ^ 32), lo := wordResult n } := by
  subst h
  have high := wordResult_eq (extractLsb'_ofInt_toInt (w := 64) (start := 32) (len := 32) (by decide) n)
  have low := wordResult_eq (extractLsb'_ofInt_toInt (w := 64) (start := 0) (len := 32) (by decide) n)
  rw [pow_zero, Int.ediv_one] at low
  rw [putWordProduct, ← high, ← low, State.setHiLo]

/-- The doubleword halves of a product that is `n` modulo 2^128. -/
theorem putDwordProduct_eq {s : State} (hs : s.enabled64) {p : BitVec 128} {n : Int} (h : p = BitVec.ofInt 128 n) :
    putDwordProduct p s = .next { s with hi := dwordResult (n / 2 ^ 64), lo := dwordResult n } := by
  subst h
  have high := dwordResult_eq (extractLsb'_ofInt_toInt (w := 128) (start := 64) (len := 64) (by decide) n)
  have low := dwordResult_eq (extractLsb'_ofInt_toInt (w := 128) (start := 0) (len := 64) (by decide) n)
  rw [pow_zero, Int.ediv_one] at low
  rw [putDwordProduct, needs64_open hs, ← high, ← low]
  rfl

section

variable {w : Nat} (v : Nat) (x y : BitVec w)

theorem signExtend_mul_eq_ofInt : x.signExtend v * y.signExtend v = BitVec.ofInt v (x.toInt * y.toInt) :=
  (BitVec.ofInt_mul _ _).symm

theorem setWidth_mul_eq_ofInt : x.setWidth v * y.setWidth v = BitVec.ofInt v ((x.toNat * y.toNat : Nat) : Int) := by
  rw [BitVec.ofInt_natCast, BitVec.ofNat_mul, BitVec.ofNat_toNat, BitVec.ofNat_toNat]

end

/-- Settles O17: the vector each instruction multiplies holds the exact product of the operands' values. -/
theorem multiply : Obligations.Multiply := by
  intro s rs rt
  have signed := putWordProduct_eq s (signExtend_mul_eq_ofInt 64 (lo32 (s.gpr rs)) (lo32 (s.gpr rt)))
  have unsigned := putWordProduct_eq s (setWidth_mul_eq_ofInt 64 (lo32 (s.gpr rs)) (lo32 (s.gpr rt)))
  rw [lo32_toNat, lo32_toNat] at unsigned
  refine ⟨signed, ?_, fun hs => ⟨?_, ?_⟩⟩
  · exact_mod_cast unsigned
  · exact putDwordProduct_eq hs (signExtend_mul_eq_ofInt 128 (s.gpr rs) (s.gpr rt))
  · exact_mod_cast putDwordProduct_eq hs (setWidth_mul_eq_ofInt 128 (s.gpr rs) (s.gpr rt))

/-! ## The quotient and the remainder -/

/-- The remainder that goes with the quotient truncated toward zero (R271, R276). -/
theorem srem_toInt {w : Nat} (a b : BitVec w) : (a.srem b).toInt = a.toInt - b.toInt * a.toInt.tdiv b.toInt := by
  rw [BitVec.toInt_srem, Int.tmod_def]

theorem divWords_zero {a b : Word} (hb : b.toInt = 0) :
    divWords a b = (wordResult a.toInt, if 0 ≤ a.toInt then 0xFFFFFFFFFFFFFFFF#64 else 1#64) := by
  have hb : b = 0#32 := BitVec.toInt_inj.1 hb
  rw [divWords, if_pos hb, wordResult_toInt, BitVec.msb_eq_toInt]
  by_cases ha : 0 ≤ a.toInt
  · simp [ha]
  · simp [ha, Int.not_le.1 ha]

theorem divWords_overflow {a b : Word} (ha : a.toInt = -2147483648) (hb : b.toInt = -1) :
    divWords a b = (0#64, 0xFFFFFFFF80000000#64) := by
  have ha : a = 0x80000000#32 := BitVec.toInt_inj.1 ha
  have hb : b = 0xFFFFFFFF#32 := BitVec.toInt_inj.1 hb
  rw [ha, hb]; rfl

theorem divWords_ordinary {a b : Word} (hb : b.toInt ≠ 0) (hab : ¬(a.toInt = -2147483648 ∧ b.toInt = -1)) :
    divWords a b = (wordResult (a.toInt - b.toInt * a.toInt.tdiv b.toInt), wordResult (a.toInt.tdiv b.toInt)) := by
  have hb : b ≠ 0#32 := fun h => hb (congrArg BitVec.toInt h)
  have hab : ¬(a = 0x80000000#32 ∧ b = 0xFFFFFFFF#32) := fun ⟨ha, hb⟩ =>
    hab ⟨congrArg BitVec.toInt ha, congrArg BitVec.toInt hb⟩
  rw [divWords, if_neg hb, if_neg hab, ← srem_toInt, wordResult_toInt, wordResult_eq (BitVec.toInt_sdiv a b)]

theorem divuWords_zero {a b : Word} (hb : b.toNat = 0) :
    divuWords a b = (wordResult (a.toNat : Int), 0xFFFFFFFFFFFFFFFF#64) := by
  rw [divuWords, if_pos (BitVec.eq_of_toNat_eq hb), wordResult_toNat]

theorem divuWords_ordinary {a b : Word} (hb : b.toNat ≠ 0) :
    divuWords a b = (wordResult ((a.toNat % b.toNat : Nat) : Int), wordResult ((a.toNat / b.toNat : Nat) : Int)) := by
  have hb : b ≠ 0#32 := fun h => hb (congrArg BitVec.toNat h)
  rw [divuWords, if_neg hb, ← BitVec.toNat_umod, ← BitVec.toNat_udiv, wordResult_toNat, wordResult_toNat,
    BitVec.umod_eq, BitVec.udiv_eq]

section

variable {s : State} {rs rt : Reg} {hi lo : Dword}

theorem exec_div_of_divWords (h : divWords (lo32 (s.gpr rs)) (lo32 (s.gpr rt)) = (hi, lo)) :
    exec (.div rs rt) s = .next { s with hi := hi, lo := lo } := by
  change execDiv rs rt s = _
  rw [execDiv, h, State.setHiLo]

theorem exec_divu_of_divuWords (h : divuWords (lo32 (s.gpr rs)) (lo32 (s.gpr rt)) = (hi, lo)) :
    exec (.divu rs rt) s = .next { s with hi := hi, lo := lo } := by
  change execDivu rs rt s = _
  rw [execDivu, h, State.setHiLo]

end

/-- Settles O18: each clause is the case of `divWords` or `divuWords` on the low words. -/
theorem divideWord : Obligations.DivideWord := by
  intro s rs rt
  rw [← lo32_toNat, ← lo32_toNat]
  exact ⟨⟨fun hb => exec_div_of_divWords (divWords_zero hb),
      fun ha hb => exec_div_of_divWords (divWords_overflow ha hb),
      fun hb hab => exec_div_of_divWords (divWords_ordinary hb hab)⟩,
    fun hb => exec_divu_of_divuWords (divuWords_zero hb),
    fun hb => exec_divu_of_divuWords (divuWords_ordinary hb)⟩

/-- DDIV's test for its edges, in the operands' values (R276). -/
theorem ddivEdge_iff (a b : Dword) :
    (b = 0#64 ∨ (a = 0x8000000000000000#64 ∧ b = 0xFFFFFFFFFFFFFFFF#64)) ↔
      (b.toInt = 0 ∨ (a.toInt = -2 ^ 63 ∧ b.toInt = -1)) := by
  rw [← BitVec.toInt_inj, ← BitVec.toInt_inj, ← BitVec.toInt_inj]; rfl

section

variable {s : State} (hs : s.enabled64) {rs rt : Reg}
include hs

theorem exec_ddiv_edge
    (h : (s.gpr rt).toInt = 0 ∨ ((s.gpr rs).toInt = -2 ^ 63 ∧ (s.gpr rt).toInt = -1)) :
    exec (.ddiv rs rt) s = stops .ddivEdge s := by
  change execDdiv rs rt s = _
  rw [execDdiv, needs64_open hs, if_pos ((ddivEdge_iff _ _).2 h)]
  rfl

theorem exec_ddiv_ordinary
    (h : ¬((s.gpr rt).toInt = 0 ∨ ((s.gpr rs).toInt = -2 ^ 63 ∧ (s.gpr rt).toInt = -1))) :
    exec (.ddiv rs rt) s =
      .next { s with lo := (s.gpr rs).sdiv (s.gpr rt), hi := (s.gpr rs).srem (s.gpr rt) } := by
  change execDdiv rs rt s = _
  rw [execDdiv, needs64_open hs, if_neg (mt (ddivEdge_iff _ _).1 h)]
  rfl

theorem exec_ddivu_edge (h : (s.gpr rt).toNat = 0) : exec (.ddivu rs rt) s = stops .ddivEdge s := by
  change execDdivu rs rt s = _
  rw [execDdivu, needs64_open hs, if_pos (BitVec.eq_of_toNat_eq h)]
  rfl

theorem exec_ddivu_ordinary (h : (s.gpr rt).toNat ≠ 0) :
    exec (.ddivu rs rt) s = .next { s with lo := s.gpr rs / s.gpr rt, hi := s.gpr rs % s.gpr rt } := by
  change execDdivu rs rt s = _
  rw [execDdivu, needs64_open hs, if_neg fun h0 => h (congrArg BitVec.toNat h0)]
  rfl

end

/-- Settles O19: outside the edges the 64-bit quotient and remainder are those of the operands' values. -/
theorem divideDword : Obligations.DivideDword := by
  intro s rs rt hs
  refine ⟨⟨exec_ddiv_edge hs, fun hb hab => ?_⟩, exec_ddivu_edge hs, fun hb => ?_⟩
  · rw [exec_ddiv_ordinary hs (not_or.2 ⟨hb, hab⟩), dwordResult_eq (BitVec.toInt_sdiv _ _), ← srem_toInt,
      dwordResult_toInt]
  · rw [exec_ddivu_ordinary hs hb, ← BitVec.toNat_udiv, ← BitVec.toNat_umod, dwordResult_toNat, dwordResult_toNat]

end Sys2Proof.Machine
end

section
/-! PROOFS. Branches and jumps: the next state of each form of branch and of jump (R280 to R306). -/

namespace Sys2Proof.Machine

/-! ## The delay-slot check (R283) -/

/-- A branch, jump or ERET is a computation behind the delay-slot check. -/
theorem exec_slotChecked {i : Instr} (h : isControl i = true) (s : State) :
    ∃ m : Res Unit, exec i s = (needsNoSlot s m).outcome := by
  cases i <;> cases h <;> exact ⟨_, rfl⟩

/-- Settles O28: in a delay slot nothing behind the check runs. -/
theorem branchInDelaySlotIsFatal : Obligations.BranchInDelaySlotIsFatal := by
  intro i s hi hs
  obtain ⟨m, hm⟩ := exec_slotChecked hi s
  rw [hm, needsNoSlot_closed hs]
  rfl

/-! ## The two ends of a branch (R280, R284) -/

section

variable {c : Bool} {p : Prop} [Decidable p] (h : c = true ↔ p) (target : Dword) (s : State)
include h

theorem branch_eq : branch c target s = if p then s.taken target else s :=
  if_congr h rfl rfl

theorem branchLikely_eq : branchLikely c target s = if p then s.taken target else s.skipped :=
  if_congr h rfl rfl

end

/-! ## The forms of branch and of jump outside a delay slot -/

section

variable {s : State} (hs : s.prevDelaySlot = false)
include hs

/-- A complete instruction behind the open check. -/
theorem outcome_needsNoSlot_done (t : State) : (needsNoSlot s (done t)).outcome = .next t := by
  rw [needsNoSlot_open hs]
  rfl

theorem jump_eq (target : Dword) : jump target s = .next (s.taken target) :=
  outcome_needsNoSlot_done hs _

theorem jumpLink_eq (r : Reg) (target : Dword) : jumpLink r target s = .next ((link r s).taken target) :=
  outcome_needsNoSlot_done hs _

variable {c : Bool} {p : Prop} [Decidable p] (h : c = true ↔ p) (offset : Imm)
include h

theorem ordinaryBranch_eq :
    ordinaryBranch c offset s = .next (if p then s.taken (branchTo s offset) else s) := by
  rw [ordinaryBranch, outcome_needsNoSlot_done hs, branch_eq h, branchTarget_eq]

theorem likelyBranch_eq :
    likelyBranch c offset s = .next (if p then s.taken (branchTo s offset) else s.skipped) := by
  rw [likelyBranch, outcome_needsNoSlot_done hs, branchLikely_eq h, branchTarget_eq]

theorem linkBranch_eq :
    linkBranch c offset s = .next (if p then (link 31#5 s).taken (branchTo s offset) else link 31#5 s) := by
  rw [linkBranch, outcome_needsNoSlot_done hs, branch_eq h, branchTarget_eq]

theorem linkLikelyBranch_eq :
    linkLikelyBranch c offset s =
      .next (if p then (link 31#5 s).taken (branchTo s offset) else (link 31#5 s).skipped) := by
  rw [linkLikelyBranch, outcome_needsNoSlot_done hs, branchLikely_eq h, branchTarget_eq]

end

/-! ## The target of a jump (R282) -/

/-- R282's mask clears the low 28 bits, as shifting them out and back does. -/
theorem and_regionMask_toNat (x : Dword) : (x &&& 0xFFFFFFFFF0000000#64).toNat = 2 ^ 28 * (x.toNat / 2 ^ 28) := by
  have mask : 0xFFFFFFFFF0000000#64 = BitVec.allOnes 64 <<< 28 := by decide
  rw [mask, ← BitVec.shiftLeft_ushiftRight, BitVec.toNat_shiftLeft, BitVec.toNat_ushiftRight, Nat.shiftLeft_eq,
    Nat.shiftRight_eq_div_pow]
  omega

theorem indexOffset_toNat (index : BitVec 26) : ((index ++ 0#2).setWidth 64).toNat = index.toNat * 4 := by
  have offset : (index ++ 0#2).toNat = index.toNat * 4 := by
    rw [BitVec.toNat_append, Nat.shiftLeft_eq]
    exact Nat.or_zero _
  rw [BitVec.toNat_setWidth, offset]
  omega

/-- The index with its two zero bits lies below the region's bits, so the two are joined by a sum. -/
theorem jumpTarget_eq (s : State) (index : BitVec 26) :
    jumpTarget s index = BitVec.ofNat 64 (s.pc.toNat / 2 ^ 28 * 2 ^ 28 + index.toNat * 4) := by
  have low : index.toNat * 4 < 2 ^ 28 := by omega
  have sum : (jumpTarget s index).toNat = s.pc.toNat / 2 ^ 28 * 2 ^ 28 + index.toNat * 4 := by
    rw [jumpTarget, BitVec.toNat_or, and_regionMask_toNat, indexOffset_toNat, ← Nat.two_pow_add_eq_or_of_lt low,
      mul_comm (2 ^ 28)]
  rw [← sum, BitVec.ofNat_toNat, BitVec.setWidth_eq]

/-! ## The instructions -/

/-- Settles O23: each condition is its rule's comparison of the 64-bit registers. -/
theorem ordinaryBranches : Obligations.OrdinaryBranches := by
  intro s rs rt offset hs
  exact ⟨ordinaryBranch_eq hs beq_iff_eq offset, ordinaryBranch_eq hs bne_iff_ne offset,
    ordinaryBranch_eq hs BitVec.sle_iff_toInt_le offset, ordinaryBranch_eq hs BitVec.slt_iff_toInt_lt offset,
    ordinaryBranch_eq hs BitVec.slt_iff_toInt_lt offset, ordinaryBranch_eq hs BitVec.sle_iff_toInt_le offset⟩

/-- Settles O24: the same comparisons; not taken, the skip leaves the flag false (R8, R284). -/
theorem likelyBranches : Obligations.LikelyBranches := by
  intro s rs rt offset hs
  exact ⟨likelyBranch_eq hs beq_iff_eq offset, likelyBranch_eq hs bne_iff_ne offset,
    likelyBranch_eq hs BitVec.sle_iff_toInt_le offset, likelyBranch_eq hs BitVec.slt_iff_toInt_lt offset,
    likelyBranch_eq hs BitVec.slt_iff_toInt_lt offset, likelyBranch_eq hs BitVec.sle_iff_toInt_le offset⟩

/-- Settles O25: condition and target are those of the state before the link, which both ends hold. -/
theorem linkingBranches : Obligations.LinkingBranches := by
  intro s rs offset hs
  exact ⟨linkBranch_eq hs BitVec.slt_iff_toInt_lt offset, linkBranch_eq hs BitVec.sle_iff_toInt_le offset,
    linkLikelyBranch_eq hs BitVec.slt_iff_toInt_lt offset, linkLikelyBranch_eq hs BitVec.sle_iff_toInt_le offset⟩

/-- Settles O26: an index jump goes to `jumpTarget`, a register jump to the register before the link. -/
theorem jumps : Obligations.Jumps := by
  intro s rs rd index hs
  rw [← jumpTarget_eq]
  exact ⟨jump_eq hs _, jumpLink_eq hs 31#5 _, jump_eq hs _, jumpLink_eq hs rd _⟩

end Sys2Proof.Machine
end

section
/-! PROOFS. Loads and stores: the values, the bytes and the link state of each access that completes (R310 to R337). -/

namespace Sys2Proof.Machine

/-- A computation behind the open 64-bit gate (R167). -/
theorem outcome_needs64 {s : State} (h64 : s.enabled64) {α : Type} (m : Res α) : (needs64 s m).outcome = m.outcome := by
  rw [needs64_open h64]

theorem exists_next_needs64 {s : State} (h64 : s.enabled64) {m : Res Unit} {P : State → Prop}
    (h : ∃ u, m.outcome = .next u ∧ P u) : ∃ u, (needs64 s m).outcome = .next u ∧ P u := by
  rwa [outcome_needs64 h64]

/-! ## An access whose address translates is the bus access (R115, R320) -/

section

variable {s t : State} (he : s.endianOk) {va : Dword} {acc : Access} {w : Width} {pa : Word}
include he

theorem dataAddr_bind {α : Type} (ht : translate s va acc w = .pa pa) (f : Word → State → Res α) :
    (dataAddr va acc w s).bind f = f pa s := by
  rw [dataAddr_pa he ht, Res.bind]

theorem memRead_pa (ht : translate s va .load w = .pa pa) : memRead va w s = busRead pa w s :=
  dataAddr_bind he ht _

theorem memWrite_pa (ht : translate s va .store w = .pa pa) (v : Dword) : memWrite va w v s = busWrite pa w v s :=
  dataAddr_bind he ht _

theorem partialRead_pa (ht : translate s va .load .byte = .pa pa) :
    partialRead va w s = busRead (container pa w) w s :=
  dataAddr_bind he ht _

/-! ## Accesses that complete -/

theorem load_next (ht : translate s va .load w = .pa pa) {v x : Dword} (hb : busRead pa w s = .ok v t) (rt : Reg)
    {f : Dword → Dword} (hf : f v = x) : (load va w rt f s).outcome = .next (t.setGpr rt x) := by
  rw [load, memRead_pa he ht, hb, ← hf]
  rfl

theorem loadPart_next (ht : translate s va .load .byte = .pa pa) {v : Dword}
    (hb : busRead (container pa w) w s = .ok v t) (rt : Reg) (f : Dword → Dword) :
    (loadPart va w rt f s).outcome = .next (t.setGpr rt (f v)) := by
  rw [loadPart, partialRead_pa he ht, hb]
  rfl

theorem memWrite_next (ht : translate s va .store w = .pa pa) {v : Dword} (hb : busWrite pa w v s = .ok () t) :
    (memWrite va w v s).outcome = .next t := by
  rw [memWrite_pa he ht, hb, Res.outcome]

theorem loadLinked_next (ht : translate s va .load w = .pa pa) {v x : Dword} (hb : busRead pa w s = .ok v t) (rt : Reg)
    {f : Dword → Dword} (hf : f v = x) :
    (loadLinked va w rt f s).outcome = .next { t.setGpr rt x with
      llbit := true, cop0 := { t.cop0 with llAddr := BitVec.ofNat 32 (pa.toNat / 16) } } := by
  have shifted : pa >>> 4 = BitVec.ofNat 32 (pa.toNat / 16) := by
    rw [← BitVec.toNat_inj, BitVec.toNat_ushiftRight, Nat.shiftRight_eq_div_pow, BitVec.toNat_ofNat]
    omega
  rw [loadLinked, dataAddr_bind he ht, hb, ← hf, ← shifted, ← setGpr_cop0 t rt (f v)]
  rfl

/-- With the link bit set the store is made; no bus write touches the bit. -/
theorem storeConditional_linked (ht : translate s va .store w = .pa pa) {rt : Reg} (hl : s.llbit = true)
    (hb : busWrite pa w (s.gpr rt) s = .ok () t) :
    (storeConditional va w rt s).outcome = .next (t.setGpr rt 1#64) ∧ t.llbit = true := by
  refine ⟨?_, (busWrite_same hb).llbit.trans hl⟩
  rw [storeConditional, dataAddr_bind he ht, if_pos hl, hb]
  rfl

theorem storeConditional_unlinked (ht : translate s va .store w = .pa pa) (rt : Reg) (hl : s.llbit = false) :
    (storeConditional va w rt s).outcome = .next (s.setGpr rt 0#64) := by
  rw [storeConditional, dataAddr_bind he ht, if_neg (by simp [hl])]
  rfl

end

/-! ## Values of aligned loads (R313 to R318) -/

theorem signExtend_low (n : Nat) (v : Dword) :
    (v.setWidth n).signExtend 64 = BitVec.ofInt 64 ((v.toNat : Int).bmod (2 ^ n)) := by
  rw [BitVec.signExtend, BitVec.toInt_setWidth]

theorem zeroExtend_low (n : Nat) (v : Dword) : (v.setWidth n).setWidth 64 = BitVec.ofNat 64 (v.toNat % 2 ^ n) := by
  rw [← BitVec.ofNat_toNat, BitVec.toNat_setWidth]

/-- Settles O29: each load writes its extension of the low bits of the value read. -/
theorem alignedLoads : Obligations.AlignedLoads := by
  intro s t base rt offset pa v he
  rw [← effAddr_eq]
  exact ⟨fun ht hb => ⟨load_next he ht hb rt (signExtend_low 8 v), load_next he ht hb rt (zeroExtend_low 8 v)⟩,
    fun ht hb => ⟨load_next he ht hb rt (signExtend_low 16 v), load_next he ht hb rt (zeroExtend_low 16 v)⟩,
    fun ht hb => ⟨load_next he ht hb rt (signExtend_low 32 v),
      fun h64 => (outcome_needs64 h64 _).trans (load_next he ht hb rt (zeroExtend_low 32 v))⟩,
    fun ht hb h64 => (outcome_needs64 h64 _).trans (load_next he ht hb rt rfl)⟩

/-- Settles O33: LL and LLD are loads that set the link state, SC and SCD follow the link bit. -/
theorem linkedAccess : Obligations.LinkedAccess := by
  intro s t base rt offset pa v he
  rw [← effAddr_eq]
  exact ⟨fun ht hb => loadLinked_next he ht hb rt (signExtend_low 32 v),
    fun h64 ht hb => (outcome_needs64 h64 _).trans (loadLinked_next he ht hb rt rfl),
    fun hl ht hb => storeConditional_linked he ht hl hb,
    fun hl ht => storeConditional_unlinked he ht rt hl,
    fun h64 hl ht hb => (storeConditional_linked he ht hl hb).imp_left (outcome_needs64 h64 _).trans,
    fun h64 hl ht => (outcome_needs64 h64 _).trans (storeConditional_unlinked he ht rt hl)⟩

/-! ## The bytes of a merged register (R322 to R325), counted from the low end of a vector of whole bytes -/

section

variable {w k q : Nat} (d old : BitVec w)

theorem getLsbD_lowOnes {m i : Nat} (hi : i < w) :
    (BitVec.twoPow w m - 1#w).getLsbD i = decide (i < m) := by
  have power : BitVec.twoPow w m = BitVec.ofNat w (2 ^ m) := BitVec.eq_of_toNat_eq (BitVec.toNat_twoPow w m)
  have one : 1 < 2 ^ w := Nat.one_lt_two_pow (by omega)
  rw [power, BitVec.ofNat_sub_ofNat_of_le _ _ one Nat.one_le_two_pow, BitVec.getLsbD_ofNat, Nat.testBit_two_pow_sub_one]
  simp [hi]

/-- A merge to the left keeps the `k` low bytes of the register. -/
theorem leftMerge_byte (hq : 8 * q + 8 ≤ w) :
    (d <<< (8 * k) ||| (old &&& (BitVec.twoPow w (8 * k) - 1#w))).extractLsb' (8 * q) 8 =
      if k ≤ q then d.extractLsb' (8 * (q - k)) 8 else old.extractLsb' (8 * q) 8 := by
  ext i hi
  have inside : 8 * q + i < w := by omega
  rw [BitVec.getElem_extractLsb', BitVec.getLsbD_or, BitVec.getLsbD_and, BitVec.getLsbD_shiftLeft,
    getLsbD_lowOnes inside]
  split
  next h =>
    have place : 8 * q + i - 8 * k = 8 * (q - k) + i := by omega
    simp [inside, place, show ¬ 8 * q + i < 8 * k by omega]
  next h => simp [show 8 * q + i < 8 * k by omega]

/-- A merge to the right keeps the `k` high bytes of the register. -/
theorem rightMerge_byte (hw : w % 8 = 0) (hq : 8 * q + 8 ≤ w) :
    (d >>> (8 * k) ||| (old &&& ~~~(BitVec.allOnes w >>> (8 * k)))).extractLsb' (8 * q) 8 =
      if 8 * (q + k) < w then d.extractLsb' (8 * (q + k)) 8 else old.extractLsb' (8 * q) 8 := by
  ext i hi
  have inside : 8 * q + i < w := by omega
  have place : 8 * k + (8 * q + i) = 8 * (q + k) + i := by omega
  rw [BitVec.getElem_extractLsb', BitVec.getLsbD_or, BitVec.getLsbD_and, BitVec.getLsbD_not,
    BitVec.getLsbD_ushiftRight, BitVec.getLsbD_ushiftRight, BitVec.getLsbD_allOnes, place]
  split
  next h => simp [show 8 * (q + k) + i < w by omega]
  next h =>
    have outside : ¬ 8 * (q + k) + i < w := by omega
    simp [inside, outside, BitVec.getLsbD_of_ge d _ (Nat.le_of_not_lt outside)]

end

theorem lo32_byte (v : Dword) {q : Nat} (hq : q < 4) : (lo32 v).extractLsb' (8 * q) 8 = v.extractLsb' (8 * q) 8 :=
  BitVec.extractLsb'_setWidth_of_le (by omega)

section

variable {k p : Nat} (v r : Dword)

theorem lwl_bytes (hp : p < 4) : (lwlMerge k (lo32 v) (lo32 r)).extractLsb' (8 * (3 - p)) 8 =
    if p + k < 4 then v.extractLsb' (8 * (3 - (p + k))) 8 else r.extractLsb' (8 * (3 - p)) 8 := by
  rw [lwlMerge, leftMerge_byte _ _ (by omega), lo32_byte v (by omega), lo32_byte r (by omega), Nat.sub_sub]
  exact if_congr (by omega) rfl rfl

theorem lwr_bytes (hk : k < 4) (hp : p < 4) : (lwrMerge k (lo32 v) (lo32 r)).extractLsb' (8 * (3 - p)) 8 =
    if 3 ≤ p + k then v.extractLsb' (8 * (3 - (p + k - 3))) 8 else r.extractLsb' (8 * (3 - p)) 8 := by
  rw [← lo32_byte v (by omega), ← lo32_byte r (by omega)]
  refine (rightMerge_byte _ _ (by decide) (by omega)).trans (if_ctx_congr (by omega) (fun h => ?_) fun _ => rfl)
  rw [show 3 - p + (3 - k) = 3 - (p + k - 3) by omega]

theorem ldl_bytes (hp : p < 8) : (ldlMerge k v r).extractLsb' (8 * (7 - p)) 8 =
    if p + k < 8 then v.extractLsb' (8 * (7 - (p + k))) 8 else r.extractLsb' (8 * (7 - p)) 8 := by
  rw [ldlMerge, leftMerge_byte _ _ (by omega), Nat.sub_sub]
  exact if_congr (by omega) rfl rfl

theorem ldr_bytes (hk : k < 8) (hp : p < 8) : (ldrMerge k v r).extractLsb' (8 * (7 - p)) 8 =
    if 7 ≤ p + k then v.extractLsb' (8 * (7 - (p + k - 7))) 8 else r.extractLsb' (8 * (7 - p)) 8 := by
  refine (rightMerge_byte _ _ (by decide) (by omega)).trans (if_ctx_congr (by omega) (fun h => ?_) fun _ => rfl)
  rw [show 7 - p + (7 - k) = 7 - (p + k - 7) by omega]

end

theorem byteInWord_lt (va : Dword) : byteInWord va < 4 := (va.setWidth 2).isLt

theorem byteInDword_lt (va : Dword) : byteInDword va < 8 := (va.setWidth 3).isLt

/-- Settles O30: each instruction writes its merge of the container and the register. -/
theorem partialLoads : Obligations.PartialLoads := by
  intro s t base rt offset pa v he
  rw [← effAddr_eq, ← byteInWord_eq, ← byteInDword_eq, ← container_word, ← container_dword]
  have hk := byteInWord_lt (effAddr s base offset)
  have hd := byteInDword_lt (effAddr s base offset)
  exact fun ht => ⟨fun hb =>
      ⟨⟨_, loadPart_next he ht hb rt _, fun p hp => lwl_bytes v _ hp⟩,
        ⟨_, loadPart_next he ht hb rt _, fun p hp => lwr_bytes v _ hk hp⟩⟩,
    fun hb h64 =>
      ⟨⟨_, (outcome_needs64 h64 _).trans (loadPart_next he ht hb rt _), fun p hp => ldl_bytes v _ hp⟩,
        ⟨_, (outcome_needs64 h64 _).trans (loadPart_next he ht hb rt _), fun p hp => ldr_bytes v _ hd hp⟩⟩⟩

end Sys2Proof.Machine
end

section
/-! PROOFS. Stores: the bytes of memory an aligned or a partial store changes (R321, R326 to R329, R334 to R337). -/

namespace Sys2Proof.Machine

/-! ## Aligned stores -/

/-- A bus write in a byte-array window that keeps off the last byte of PIF RAM stores its bytes and changes nothing else. -/
theorem busWrite_stored {s : State} {pa : Word} {w : Width} (hwf : s.mem.wf = true) (hb : s.bytesAt pa.toNat)
    (hp : ¬(pa.toNat ≤ pifTrigger ∧ pifTrigger < pa.toNat + w.bytes)) (v : Dword) :
    ∃ u, busWrite pa w v s = .ok () u ∧ u = { s with mem := u.mem } ∧ storedAt s u pa.toNat w.bytes v := by
  refine ⟨_, busWrite_bytes hb w v, ?_⟩
  rw [storeBytes_plain hp]
  exact ⟨rfl, Memory.read_stored hwf _ _ v⟩

/-- Settles O31: each store is one bus write of the register. -/
theorem alignedStores : Obligations.AlignedStores := by
  intro s t base rt offset pa he
  rw [← effAddr_eq]
  have writes {w : Width} (h : translate s (effAddr s base offset) .store w = .pa pa ∧
      busWrite pa w (s.gpr rt) s = .ok () t) : (memWrite (effAddr s base offset) w (s.gpr rt) s).outcome = .next t :=
    memWrite_next he h.1 h.2
  have stored {w : Width} (h : translate s (effAddr s base offset) .store w = .pa pa ∧ s.mem.wf = true ∧
      s.bytesAt pa.toNat ∧ ¬(pa.toNat ≤ pifTrigger ∧ pifTrigger < pa.toNat + w.bytes)) :
      ∃ u, (memWrite (effAddr s base offset) w (s.gpr rt) s).outcome = .next u ∧
        u = { s with mem := u.mem } ∧ storedAt s u pa.toNat w.bytes (s.gpr rt) := by
    obtain ⟨ht, hwf, hb, hp⟩ := h
    exact (busWrite_stored hwf hb hp _).imp fun _ => And.imp_left (memWrite_next he ht)
  exact ⟨writes, stored, writes, stored, writes, stored, fun h64 h => (outcome_needs64 h64 _).trans (writes h),
    fun h64 h => exists_next_needs64 h64 (stored h)⟩

/-! ## The container of a partial store (R320) -/

theorem container_toNat (pa : Word) (w : Width) : (container pa w).toNat = pa.toNat / w.bytes * w.bytes := by
  have cleared : ∀ k, (pa &&& ~~~(BitVec.ofNat 32 (2 ^ k - 1))).toNat = pa.toNat / 2 ^ k * 2 ^ k := by
    intro k
    apply Nat.eq_of_testBit_eq
    intro i
    rw [Nat.testBit_mul_two_pow, Nat.testBit_div_two_pow, BitVec.testBit_toNat, BitVec.testBit_toNat, BitVec.getLsbD_and,
      BitVec.getLsbD_not, BitVec.getLsbD_ofNat, Nat.testBit_two_pow_sub_one]
    by_cases hi : i < 32
    · by_cases hk : k ≤ i
      · simp [hi, hk]
      · simp [hi, hk, Nat.lt_of_not_le hk]
    · have outside : 32 ≤ i - k + k := by omega
      simp [hi, BitVec.getLsbD_of_ge pa _ outside]
  unfold container
  cases w
  case byte => exact cleared 0
  case half => exact cleared 1
  case word => exact cleared 2
  case dword => exact cleared 3

/-- A container in a byte-array window, away from the last byte of PIF RAM, is memory that a store does not trigger. -/
theorem container_plain {s : State} {pa : Word} {w : Width} (hb : s.bytesAt pa.toNat)
    (hp : pa.toNat / w.bytes ≠ pifTrigger / w.bytes) :
    s.bytesAt (container pa w).toNat ∧
      ¬((container pa w).toNat ≤ pifTrigger ∧ pifTrigger < (container pa w).toNat + w.bytes) := by
  have positive : 0 < w.bytes := by cases w <;> decide
  rw [container_toNat]
  refine ⟨inByteArray_container w.bytes_cases (Nat.mul_div_cancel _ positive).symm hb, fun ⟨first, last⟩ => hp ?_⟩
  exact (Nat.div_eq_of_lt_le first (by rwa [Nat.add_one_mul])).symm

section

variable {s : State} {va : Dword} {acc : Access} {w : Width} {pa : Word} (ht : translate s va acc w = .pa pa)
include ht

theorem container_add_byteInWord : pa.toNat / 4 * 4 + byteInWord va = pa.toNat := by
  have := translate_offset ht
  rw [byteInWord_eq]
  omega

theorem container_add_byteInDword : pa.toNat / 8 * 8 + byteInDword va = pa.toNat := by
  have := translate_offset ht
  rw [byteInDword_eq]
  omega

end

/-- A bus write depends on the bytes it writes only. -/
theorem busWrite_congr (pa : Word) (w : Width) {v v' : Dword} (s : State)
    (h : ∀ p < w.bytes, v.extractLsb' (8 * p) 8 = v'.extractLsb' (8 * p) 8) : busWrite pa w v s = busWrite pa w v' s := by
  by_cases hw : w = .word
  · subst hw
    exact busWrite_word_congr pa s h
  · simp only [busWrite, storeBytes, Memory.writeBE_congr _ _ h, hw, if_false]

/-- A store of a container that leaves bytes outside `lo` to `hi - 1` as they were is a store of those bytes. -/
theorem storedAt_part {s u : State} {c n lo hi : Nat} {merged x : Dword} (hn : n ≤ 8) (hhi : hi ≤ n)
    (hu : storedAt s u c n merged)
    (hm : ∀ p < n, merged.extractLsb' (8 * (n - 1 - p)) 8 = if lo ≤ p ∧ p < hi then x.extractLsb' (8 * (hi - 1 - p)) 8
      else (s.mem.readBE c n).extractLsb' (8 * (n - 1 - p)) 8) :
    storedAt s u (c + lo) (hi - lo) x := by
  intro y
  rw [hu y]
  split
  next inside =>
    obtain ⟨p, rfl⟩ := Nat.exists_eq_add_of_le inside.1
    have hp : p < n := by omega
    rw [show c + n - 1 - (c + p) = n - 1 - p by omega, hm p hp, Memory.readBE_byte _ _ hn hp]
    refine if_ctx_congr (by omega) (fun _ => ?_) fun _ => rfl
    rw [show c + lo + (hi - lo) - 1 - (c + p) = hi - 1 - p by omega]
  next outside => rw [if_neg (by omega)]

section

variable {s t u : State} (he : s.endianOk) {va : Dword} {w : Width} {pa : Word}
  (ht : translate s va .store .byte = .pa pa) {mask bits : Dword}
include he ht

/-- A partial store writes any value with the bytes of its merge, counted from the first byte of the container. -/
theorem partialWrite_next {old new : Dword} (hr : busRead (container pa w) w s = .ok old t)
    (hw : busWrite (container pa w) w new t = .ok () u) {b : Nat → Byte}
    (hm : ∀ p < w.bytes, (maskWrite mask old bits).extractLsb' (8 * (w.bytes - 1 - p)) 8 = b p)
    (hn : ∀ p < w.bytes, new.extractLsb' (8 * (w.bytes - 1 - p)) 8 = b p) :
    (partialWrite va w mask bits s).outcome = .next u := by
  have same : ∀ q < w.bytes, (maskWrite mask old bits).extractLsb' (8 * q) 8 = new.extractLsb' (8 * q) 8 := by
    intro q hq
    have h := (hm (w.bytes - 1 - q) (by omega)).trans (hn (w.bytes - 1 - q) (by omega)).symm
    rwa [show w.bytes - 1 - (w.bytes - 1 - q) = q by omega] at h
  rw [partialWrite, dataAddr_bind he ht, hr, Res.bind, ← maskWrite, busWrite_congr _ _ _ same, hw, Res.outcome]

/-- In a byte-array window a merge that puts `x` in bytes `lo` to `hi - 1` of the container stores those bytes only. -/
theorem partialWrite_stored (hwf : s.mem.wf = true) (hb : s.bytesAt pa.toNat) (hp : pa.toNat / w.bytes ≠ pifTrigger / w.bytes)
    {lo hi a : Nat} (ha : pa.toNat / w.bytes * w.bytes + lo = a) (hhi : hi ≤ w.bytes) {x : Dword}
    (hm : ∀ old : Dword, ∀ p < w.bytes, (maskWrite mask old bits).extractLsb' (8 * (w.bytes - 1 - p)) 8 =
      if lo ≤ p ∧ p < hi then x.extractLsb' (8 * (hi - 1 - p)) 8 else old.extractLsb' (8 * (w.bytes - 1 - p)) 8) :
    ∃ u, (partialWrite va w mask bits s).outcome = .next u ∧ u = { s with mem := u.mem } ∧ storedAt s u a (hi - lo) x := by
  obtain ⟨memory, noTrigger⟩ := container_plain hb hp
  obtain ⟨u, hu, frame, stored⟩ :=
    busWrite_stored hwf memory noTrigger (maskWrite mask (s.mem.readBE (container pa w).toNat w.bytes) bits)
  refine ⟨u, partialWrite_next he ht (busRead_bytes memory w) hu (fun _ _ => rfl) fun _ _ => rfl, frame, ?_⟩
  rw [← ha, ← container_toNat]
  exact storedAt_part w.bytes_le hhi stored (hm _)

end

/-! ## The bytes of the register a partial store to the left stores -/

theorem shiftedWord_byte {k p : Nat} (hk : k ≤ p) (hp : p < 4) (v : Dword) :
    ((v.setWidth 32 >>> (8 * k)).setWidth 64).extractLsb' (8 * (3 - p)) 8 = v.extractLsb' (8 * (3 - (p - k))) 8 := by
  ext i hi
  have place : 8 * k + (8 * (3 - p) + i) = 8 * (3 - (p - k)) + i := by omega
  simp [place, show 8 * (3 - p) + i < 64 by omega, show 8 * (3 - (p - k)) + i < 32 by omega,
    show 8 * (3 - (p - k)) + i < 64 by omega]

theorem shiftedDword_byte {k p : Nat} (hk : k ≤ p) (hp : p < 8) (v : Dword) :
    (v >>> (8 * k)).extractLsb' (8 * (7 - p)) 8 = v.extractLsb' (8 * (7 - (p - k))) 8 := by
  ext i hi
  have place : 8 * k + (8 * (7 - p) + i) = 8 * (7 - (p - k)) + i := by omega
  simp [place]

/-- Settles O32: the merge each instruction writes has the bytes of its rule (`swl_bytes` and its like). -/
theorem partialStores : Obligations.PartialStores := by
  intro s t u base rt offset pa old new he ht
  rw [← effAddr_eq] at ht ⊢
  rw [← byteInWord_eq, ← byteInDword_eq, ← container_word, ← container_dword]
  have hk := byteInWord_lt (effAddr s base offset)
  have hd := byteInDword_lt (effAddr s base offset)
  have hword := container_add_byteInWord ht
  have hdword := container_add_byteInDword ht
  refine ⟨fun hr hw => ⟨?_, ?_⟩, fun ⟨hwf, hb, hp⟩ => ⟨?_, ?_⟩, fun h64 hr hw => ⟨fun hn => ?_, fun hn => ?_⟩,
    fun h64 ⟨hwf, hb, hp⟩ => ⟨exists_next_needs64 h64 ?_, exists_next_needs64 h64 ?_⟩⟩
  · exact partialWrite_next he ht hr hw fun p hp => swl_bytes hk hp old _
  · exact partialWrite_next he ht hr hw fun p hp => swr_bytes hk hp old _
  · refine partialWrite_stored (w := .word) he ht hwf hb hp hword le_rfl fun old p hp => (swl_bytes hk hp old _).trans ?_
    exact if_ctx_congr (and_iff_left hp).symm (fun h => (shiftedWord_byte h.1 hp _).symm) fun _ => rfl
  · refine partialWrite_stored (w := .word) (lo := 0) he ht hwf hb hp (Nat.sub_eq_of_eq_add hword.symm).symm hk
      fun old p hp => (swr_bytes hk hp old _).trans ?_
    exact if_congr (by omega) rfl rfl
  · exact (outcome_needs64 h64 _).trans (partialWrite_next he ht hr hw (fun p hp => sdl_bytes hd hp old _) hn)
  · exact (outcome_needs64 h64 _).trans (partialWrite_next he ht hr hw (fun p hp => sdr_bytes hd hp old _) hn)
  · refine partialWrite_stored (w := .dword) he ht hwf hb hp hdword le_rfl fun old p hp => (sdl_bytes hd hp old _).trans ?_
    exact if_ctx_congr (and_iff_left hp).symm (fun h => (shiftedDword_byte h.1 hp _).symm) fun _ => rfl
  · refine partialWrite_stored (w := .dword) (lo := 0) he ht hwf hb hp (Nat.sub_eq_of_eq_add hdword.symm).symm hd
      fun old p hp => (sdr_bytes hd hp old _).trans ?_
    exact if_congr (by omega) rfl rfl

end Sys2Proof.Machine
end

section
/-! PROOFS. The system instructions: traps and cache operations, coprocessor usability, COP0 moves, the TLB instructions and
ERET (R340 to R376). -/

namespace Sys2Proof.Machine

/-! ## Traps (R340 to R354) -/

/-- A raise that ends an instruction takes its exception. -/
theorem raise_takes {α : Type} (k : Exc) (s : State) : (raise k true s : Res α).outcome = takes k s := raise_outcome k true s

theorem trapIf_trapsWhen {s : State} {i : Instr} {c : Bool} {cond : Prop} (hi : exec i s = trapIf c s) (hc : c = true ↔ cond) :
    trapsWhen cond i s := by
  rw [trapsWhen, hi, ← hc, trapIf]
  cases c
  · exact ⟨fun _ => rfl, nofun⟩
  · exact ⟨fun h => absurd rfl h, fun _ => raise_takes .trap s⟩

/-- Settles O39: each trap tests the comparison of its rule, with the 64 bits of the sign-extended immediate. -/
theorem trapsSyncAndCache : Obligations.TrapsSyncAndCache := by
  intro s rs rt imm code tcode op a b c
  have hc : c = simm imm := dwordResult_imm imm
  have ule {x y : Dword} : x.ule y = true ↔ x.toNat ≤ y.toNat := decide_eq_true_iff
  have ult {x y : Dword} : x.ult y = true ↔ x.toNat < y.toNat := decide_eq_true_iff
  rw [hc, ← simm_toInt imm]
  refine ⟨fun h => ⟨?_, ?_⟩, fun h => ⟨?_, ?_⟩, trapIf_trapsWhen rfl BitVec.sle_iff_toInt_le, trapIf_trapsWhen rfl ule,
    trapIf_trapsWhen rfl BitVec.slt_iff_toInt_lt, trapIf_trapsWhen rfl ult, trapIf_trapsWhen rfl beq_iff_eq,
    trapIf_trapsWhen rfl bne_iff_ne, trapIf_trapsWhen rfl BitVec.sle_iff_toInt_le, trapIf_trapsWhen rfl ule,
    trapIf_trapsWhen rfl BitVec.slt_iff_toInt_lt, trapIf_trapsWhen rfl ult, trapIf_trapsWhen rfl beq_iff_eq,
    trapIf_trapsWhen rfl bne_iff_ne, rfl, fun hu => ?_⟩
  · exact (raise_takes .syscall s).trans (if_neg (Bool.eq_false_iff.1 h))
  · exact (raise_takes .breakpoint s).trans (if_neg (Bool.eq_false_iff.1 h))
  · exact (raise_takes .syscall s).trans (if_pos h)
  · exact (raise_takes .breakpoint s).trans (if_pos h)
  · exact congrArg Res.outcome (needsCop0_open hu (done s))

/-! ## Usability (R360, R380) -/

section

variable {i : Instr} {s : State} (h64 : is64 i = true → s.enabled64) (hs : isControl i = true → s.prevDelaySlot = false)
include h64 hs

/-- Past the 64-bit gate and the delay-slot check, a COP0 instruction or CACHE is a computation behind its usability check. -/
theorem exec_cop0Checked (h : isCop0 i = true) : ∃ m : Res Unit, exec i s = (needsCop0 s m).outcome := by
  cases i <;> cases h
  case cache | mfc0 | mtc0 | tlbwi | tlbwr | tlbr | tlbp => exact ⟨_, rfl⟩
  case dmfc0 | dmtc0 => exact ⟨_, outcome_needs64 (h64 rfl) _⟩
  case eret => exact ⟨_, congrArg Res.outcome (needsNoSlot_open (hs rfl) _)⟩

theorem exec_cop1Checked (h : isCop1 i = true) : ∃ m : Res Unit, exec i s = (needsCop1 s m).outcome := by
  cases i <;> cases h
  case cfc1 | ctc1 | mfc1 | mtc1 | lwc1 | ldc1 | swc1 | sdc1 | fpComputeS | fpComputeD | fpComputeW | fpComputeL =>
    exact ⟨_, rfl⟩
  case dmfc1 | dmtc1 => exact ⟨_, outcome_needs64 (h64 rfl) _⟩
  case bc1f | bc1t | bc1fl | bc1tl => exact ⟨_, congrArg Res.outcome (needsNoSlot_open (hs rfl) _)⟩

end

/-- Settles O40: behind a closed usability check nothing but its exception happens. -/
theorem coprocessorUnusable : Obligations.CoprocessorUnusable := by
  intro i s h64 hs
  refine ⟨fun h hu => ?_, fun h hu => ?_⟩
  · obtain ⟨m, hm⟩ := exec_cop0Checked h64 hs h
    rw [hm, needsCop0_closed hu, raise_takes]
  · obtain ⟨m, hm⟩ := exec_cop1Checked h64 hs h
    rw [hm, needsCop1_closed hu, raise_takes]

/-! ## Instructions whose coprocessor is usable -/

theorem outcome_needsCop1 {s : State} (hu : s.usable1) (m : Res Unit) : (needsCop1 s m).outcome = m.outcome := by
  rw [needsCop1_open hu]

section

variable {s : State} (hu : s.usable0)
include hu

theorem outcome_needsCop0 (m : Res Unit) : (needsCop0 s m).outcome = m.outcome := by
  rw [needsCop0_open hu]

theorem exec_mtc0 (rt : Reg) (n : BitVec 5) :
    exec (.mtc0 rt n) s = (cop0Write n (((s.gpr rt).setWidth 32).signExtend 64) s).outcome :=
  outcome_needsCop0 hu _

theorem exec_dmtc0 (he : s.enabled64) (rt : Reg) (n : BitVec 5) :
    exec (.dmtc0 rt n) s = (cop0Write n (s.gpr rt) s).outcome :=
  (outcome_needs64 he _).trans (outcome_needsCop0 hu _)

theorem exec_eret (hs : s.prevDelaySlot = false) : exec .eret s = .next (returnFromException s) := by
  change execEret s = _
  rw [execEret, needsNoSlot_open hs, outcome_needsCop0 hu, outcome_done]

end

theorem returnFromException_error {s : State} (h : s.erl = true) : returnFromException s =
    { s with pc := s.cop0.errorEpc, nextPc := s.cop0.errorEpc + 4#64, llbit := false
             cop0 := { s.cop0 with status := s.cop0.status &&& ~~~4#32 } } := if_pos h

theorem returnFromException_ordinary {s : State} (h : s.erl = false) : returnFromException s =
    { s with pc := s.cop0.epc, nextPc := s.cop0.epc + 4#64, llbit := false
             cop0 := { s.cop0 with status := s.cop0.status &&& ~~~2#32 } } := if_neg (Bool.eq_false_iff.1 h)

/-- Settles O38: ERL decides between the two returns. -/
theorem eret : Obligations.Eret := by
  intro s hs hu
  rw [exec_eret hu hs]
  exact ⟨fun h => by rw [returnFromException_error h]; rfl, fun h => by rw [returnFromException_ordinary h]; rfl⟩

/-! ## Writes of COP0 (R363, R364, R367) -/

/-- Count takes the low word doubled, which 33 bits hold (R37). -/
theorem doubled_word (v : Dword) : (v.setWidth 32).setWidth 33 <<< 1 = BitVec.ofNat 33 (v.toNat % 2 ^ 32 * 2) := by
  apply BitVec.eq_of_toNat_eq
  simp only [BitVec.toNat_shiftLeft, BitVec.toNat_setWidth, BitVec.toNat_ofNat, Nat.shiftLeft_eq]
  omega

/-- Settles O42: each register is written by its arm of `cop0Write`. -/
theorem cop0Writes : Obligations.Cop0Writes := by
  intro s rt hu c writes word dword
  have write : ∀ {n : BitVec 5} {f : Dword → Cop0}, (∀ v, cop0Write n v s = done { s with cop0 := f v }) → writes n f :=
    fun h => ⟨(exec_mtc0 hu rt _).trans (by rw [h, outcome_done]),
      fun he => (exec_dmtc0 hu he rt _).trans (by rw [h, outcome_done])⟩
  -- With `writes` opaque, `write` matches its clause as it stands.
  clear_value writes
  refine ⟨write ?_, write ?_, write ?_, write ?_, write ?_, write ?_, write ?_, write ?_, write ?count, write ?_, write ?_,
    write ?_, write ?_, write ?_, write ?_, write ?_, write ?_, write ?_, write ?_, write ?_, write ?_⟩
  case count => exact fun v => by rw [← doubled_word]; rfl
  all_goals exact fun _ => rfl

/-! ## The forms the core refuses (R365, R372, R383, R386, R399) -/

section

variable {n : BitVec 5} (h : n.toNat ∈ [7, 21, 22, 23, 24, 25, 26, 27, 28, 29, 31]) (s : State)
include h

/-- The numbers that name no COP0 register reach the last arm of a read, and of a write. -/
theorem cop0Read_unnamed : cop0Read n s = .fatal .cop0Index s := by
  unfold cop0Read
  generalize n.toNat = k at h ⊢
  fin_cases h <;> rfl

theorem cop0Write_unnamed (v : Dword) : cop0Write n v s = .fatal .cop0Index s := by
  unfold cop0Write
  generalize n.toNat = k at h ⊢
  fin_cases h <;> rfl

end

/-- Settles O43: past its checks each form goes straight to its stop. -/
theorem stopsByRule : Obligations.StopsByRule := by
  intro s rt n fs fd funct
  refine ⟨fun hu => ⟨fun hn => ⟨?mfc0, ?mtc0, fun he => ⟨?dmfc0, ?dmtc0⟩⟩, outcome_needsCop0 hu _⟩,
    fun hu => ⟨fun h0 h31 => ?cfc1, fun h31 => ?ctc1, outcome_needsCop1 hu _, outcome_needsCop1 hu _,
      outcome_needsCop1 hu _, outcome_needsCop1 hu _⟩⟩
  case mfc0 => exact (outcome_needsCop0 hu _).trans (by rw [cop0Read_unnamed hn, bind_fatal, outcome_fatal])
  case mtc0 => rw [exec_mtc0 hu, cop0Write_unnamed hn, outcome_fatal]
  case dmfc0 =>
    refine (outcome_needs64 he _).trans ((outcome_needsCop0 hu _).trans ?_)
    rw [cop0Read_unnamed hn, bind_fatal, outcome_fatal]
  case dmtc0 => rw [exec_dmtc0 hu he, cop0Write_unnamed hn, outcome_fatal]
  case cfc1 => exact (outcome_needsCop1 hu _).trans (by rw [if_neg h0, if_neg h31, outcome_fatal])
  case ctc1 => exact (outcome_needsCop1 hu _).trans (by rw [if_pos h31, outcome_fatal])

end Sys2Proof.Machine
end

section
/-! PROOFS. The TLB instructions (R371 to R374). -/

namespace Sys2Proof.Machine

/-! ## TLBWI (R371) -/

/-- The slot that Index names, as a number. -/
theorem tlbSlot_toNat (s : State) : (tlbSlot s).toNat = s.cop0.index.toNat % 32 := BitVec.toNat_setWidth 5 _

theorem legalPageMask_iff (m : Word) : legalPageMask m = true ↔
    m.toNat ∈ [0x0, 0x6000, 0x1E000, 0x7E000, 0x1FE000, 0x7FE000, 0x1FFE000] := by
  simp [legalPageMask, ← BitVec.toNat_inj]

/-- A legal page mask lies in the bits that TLBWI copies. -/
theorem legalPageMask_copied {m : Word} (h : legalPageMask m = true) : m &&& 0x01FFE000#32 = m := by
  rw [legalPageMask, List.contains_iff_mem] at h
  fin_cases h <;> rfl

section

variable {s : State} (hu : s.usable0)
include hu

theorem exec_tlbwi_legal (h : legalPageMask s.cop0.pageMask = true) : exec .tlbwi s = .next { s with
    tlb := s.tlb.set (s.cop0.index.toNat % 32) (entryOfCop0 s.cop0) (Nat.mod_lt _ (by decide)) } := by
  simp only [← tlbSlot_toNat]
  exact (outcome_needsCop0 hu _).trans (by rw [if_pos h, outcome_done])

theorem exec_tlbwi_illegal (h : ¬ legalPageMask s.cop0.pageMask = true) : exec .tlbwi s = stops .tlbPagemask s :=
  (outcome_needsCop0 hu _).trans (by rw [if_neg h, outcome_fatal])

/-- TLBR reads the slot that Index names (R373). -/
theorem exec_tlbr : exec .tlbr s = .next { s with
    cop0 := cop0OfEntry (s.tlb[s.cop0.index.toNat % 32]'(Nat.mod_lt _ (by decide))) s.cop0 } := by
  simp only [← tlbSlot_toNat]
  exact outcome_needsCop0 hu _

end

/-! ## TLBP (R374) -/

theorem tlbHits_of_miss {s : State} {va : Dword} (h : ∀ i, ¬ tlbMatch s va i) : tlbHits s (lo32 va) = [] :=
  List.eq_nil_iff_forall_not_mem.2 fun p hp => by
    obtain ⟨i, -, hi⟩ := mem_tlbHits.1 hp
    exact h i hi

theorem tlbHits_of_unique {s : State} {va : Dword} {i : Fin 32} (hi : tlbMatch s va i) (h : ∀ j, tlbMatch s va j → j = i) :
    tlbHits s (lo32 va) = [(s.tlb[i], i.val)] := by
  have mem : ∀ p, p ∈ tlbHits s (lo32 va) ↔ p = (s.tlb[i], i.val) := fun p => mem_tlbHits.trans
    ⟨fun ⟨j, hp, hj⟩ => h j hj ▸ hp, fun hp => ⟨i, hp, hi⟩⟩
  refine List.perm_singleton.1 ((List.perm_ext_iff_of_nodup (tlbHits_nodup s _) (List.nodup_singleton _)).2 fun p => ?_)
  rw [mem, List.mem_singleton]

theorem tlbHits_of_two {s : State} {va : Dword} {i j : Fin 32} (hij : i ≠ j) (hi : tlbMatch s va i) (hj : tlbMatch s va j) :
    ∃ p q l, tlbHits s (lo32 va) = p :: q :: l := by
  have mi := mem_tlbHits.2 ⟨i, rfl, hi⟩
  have mj := mem_tlbHits.2 ⟨j, rfl, hj⟩
  match h : tlbHits s (lo32 va) with
  | [] => rw [h] at mi; cases mi
  | [p] =>
    rw [h, List.mem_singleton] at mi mj
    exact absurd (Fin.ext (congrArg Prod.snd (mi.trans mj.symm))) hij
  | p :: q :: l => exact ⟨p, q, l, rfl⟩

/-- The index bits that a miss leaves free stand below P. -/
theorem missIndex (x : BitVec 6) : 0x80000000#32 ||| x.setWidth 32 = BitVec.ofNat 32 (0x80000000 + x.toNat) := by
  revert x; decide

section

variable {s : State} (hu : s.usable0)
include hu

theorem exec_tlbp_miss (h : ∀ i, ¬ tlbMatch s s.cop0.entryHi i) : exec .tlbp s = .next { s with
    draws := s.draws + 1
    cop0 := { s.cop0 with index := BitVec.ofNat 32 (0x80000000 + (s.draw.1.setWidth 6).toNat) } } := by
  refine (outcome_needsCop0 hu _).trans ?_
  rw [tlbHits_of_miss h, ← missIndex]
  rfl

theorem exec_tlbp_hit {i : Fin 32} (hi : tlbMatch s s.cop0.entryHi i) (h : ∀ j, tlbMatch s s.cop0.entryHi j → j = i) :
    exec .tlbp s = .next { s with cop0 := { s.cop0 with index := BitVec.ofNat 32 i.val } } := by
  refine (outcome_needsCop0 hu _).trans ?_
  rw [tlbHits_of_unique hi h]
  rfl

theorem exec_tlbp_multi {i j : Fin 32} (hij : i ≠ j) (hi : tlbMatch s s.cop0.entryHi i) (hj : tlbMatch s s.cop0.entryHi j) :
    exec .tlbp s = stops .tlbMulti s := by
  refine (outcome_needsCop0 hu _).trans ?_
  obtain ⟨p, q, l, h⟩ := tlbHits_of_two hij hi hj
  rw [h]
  rfl

end

/-- Settles O44: Index names the slot of TLBWI and TLBR, and TLBP answers by the hits of its lookup. -/
theorem tlbInstructions : Obligations.TlbInstructions := by
  intro s hu c i legal
  have hl : legalPageMask c.pageMask = true ↔ legal := legalPageMask_iff c.pageMask
  refine ⟨fun h => ⟨_, exec_tlbwi_legal hu (hl.2 h), rfl, fun j hj => ?_, ?_⟩, fun h => exec_tlbwi_illegal hu (mt hl.1 h),
    ?_, fun h => ⟨_, (s.draw.1.setWidth 6).isLt, exec_tlbp_miss hu h⟩, fun j hj h => exec_tlbp_hit hu hj h,
    fun j k hjk hj hk => exec_tlbp_multi hu hjk hj hk⟩
  · exact Vector.getElem_set_ne (Nat.mod_lt _ (by decide)) j.isLt fun e => hj (Fin.ext e.symm)
  · have hi : (s.tlb.set (c.index.toNat % 32) (entryOfCop0 c) (Nat.mod_lt _ (by decide)))[i] = entryOfCop0 c :=
      Vector.getElem_set_self _
    rw [hi]
    exact ⟨rfl, legalPageMask_copied (hl.2 h), rfl, rfl, rfl, rfl, rfl⟩
  · intro e g
    have hg : (BitVec.ofBool e.g).setWidth 32 = g := by cases h : e.g <;> simp [g, h]
    rw [← hg]
    exact exec_tlbr hu

end Sys2Proof.Machine
end

section
/-! PROOFS. User mode without COP0 (R360, R435, R436): an instruction keeps the privileged state, or takes an exception from the
state before it. -/

namespace Sys2Proof.Machine

/-- `t` has the privileged state of `s`, except what a user-mode access may change: LLAddr, and IP2 through a device (R433). -/
structure SamePrivileged (s t : State) : Prop where
  tlb : t.tlb = s.tlb
  inputs : t.inputs = s.inputs
  cop0 : t.cop0 = { s.cop0 with cause := t.cop0.cause, llAddr := t.cop0.llAddr }
  cause : ∀ k, k ≠ 10 → t.cop0.cause.getLsbD k = s.cop0.cause.getLsbD k

namespace SamePrivileged

variable {s t u : State}

theorem of_eq (ht : t.tlb = s.tlb) (hi : t.inputs = s.inputs) (hc : t.cop0 = s.cop0) : SamePrivileged s t :=
  ⟨ht, hi, by rw [hc], fun k _ => by rw [hc]⟩

theorem refl (s : State) : SamePrivileged s s := of_eq rfl rfl rfl

theorem trans (h : SamePrivileged s t) (g : SamePrivileged t u) : SamePrivileged s u where
  tlb := g.tlb.trans h.tlb
  inputs := g.inputs.trans h.inputs
  cop0 := by rw [g.cop0, h.cop0]
  cause k hk := (g.cause k hk).trans (h.cause k hk)

theorem ofSameCpu (h : SameCpu s t) : SamePrivileged s t := ⟨h.tlb, h.inputs, by rw [h.cop0], h.cause⟩

theorem linked (s : State) (a : Word) : SamePrivileged s { s with llbit := true, cop0 := { s.cop0 with llAddr := a } } :=
  ⟨rfl, rfl, rfl, fun _ _ => rfl⟩

theorem setGpr (h : SamePrivileged s t) (r : Reg) (v : Dword) : SamePrivileged s (t.setGpr r v) :=
  h.trans (of_eq (setGpr_tlb t r v) (setGpr_inputs t r v) (setGpr_cop0 t r v))

theorem branch (h : SamePrivileged s t) (c : Bool) (target : Dword) : SamePrivileged s (branch c target t) :=
  h.trans (of_eq (branch_tlb c target t) (branch_inputs c target t) (branch_cop0 c target t))

theorem branchLikely (h : SamePrivileged s t) (c : Bool) (target : Dword) : SamePrivileged s (branchLikely c target t) :=
  h.trans (of_eq (branchLikely_tlb c target t) (branchLikely_inputs c target t) (branchLikely_cop0 c target t))

theorem fpWrite32 (h : SamePrivileged s t) (r : Reg) (v : Word) : SamePrivileged s (fpWrite32 r v t) := by
  refine h.trans ?_
  unfold Machine.fpWrite32
  split <;> exact of_eq rfl rfl rfl

end SamePrivileged

/-- A computation that ends with the privileged state of `s`, or with an exception taken from `s` itself. -/
def Res.Confined {α : Type} (s : State) (m : Res α) : Prop :=
  match m with
  | .ok _ t => SamePrivileged s t
  | .raised t => ∃ k, t = enterException k true s
  | .fatal _ _ => True

/-- `o` is the outcome of a confined computation. -/
def EndsConfined (s : State) (o : Out) : Prop := ∃ m : Res Unit, o = m.outcome ∧ m.Confined s

theorem Res.Confined.bind {α β : Type} {s : State} {m : Res α} {f : α → State → Res β} (h : m.Confined s)
    (g : ∀ a t, m = .ok a t → SamePrivileged s t → (f a t).Confined s) : (m.bind f).Confined s := by
  cases m with
  | ok a t => exact g a t rfl h
  | raised t => exact h
  | fatal r t => trivial

/-! ## Parts of an instruction -/

section

variable {s t : State}

theorem ends_confined {m : Res Unit} (h : m.Confined s) : EndsConfined s m.outcome := ⟨m, rfl, h⟩

theorem endsConfined_next (h : SamePrivileged s t) : EndsConfined s (.next t) := ends_confined (m := done t) h

theorem EndsConfined.of_next {o : Out} (h : EndsConfined s o) (hn : o = .next t) :
    SamePrivileged s t ∨ ∃ k, t = enterException k true s := by
  obtain ⟨m, rfl, hm⟩ := h
  obtain ⟨_, rfl⟩ | rfl := outcome_eq_next.1 hn
  · exact .inl hm
  · exact .inr hm

theorem confined_raise {α : Type} (k : Exc) (s : State) : (raise k true s : Res α).Confined s := by
  unfold raise; split
  · trivial
  · exact ⟨k, rfl⟩

theorem confined_needs64 {m : Res Unit} (h : m.Confined s) : (needs64 s m).Confined s := by
  unfold needs64; split
  · trivial
  · exact h

theorem confined_needsNoSlot {m : Res Unit} (h : m.Confined s) : (needsNoSlot s m).Confined s := by
  unfold needsNoSlot; split
  · trivial
  · exact h

theorem confined_needsCop1 {m : Res Unit} (h : m.Confined s) : (needsCop1 s m).Confined s := by
  unfold needsCop1; split
  · exact h
  · exact confined_raise _ s

/-- Behind a closed COP0 check any computation is confined: it does not run. -/
theorem confined_needsCop0 (hu : ¬ s.usable0) (m : Res Unit) : (needsCop0 s m).Confined s := by
  rw [needsCop0_closed hu]
  exact confined_raise _ s

theorem confined_trapIf (c : Bool) (s : State) : (if c then raise .trap true s else done s : Res Unit).Confined s := by
  split
  · exact confined_raise _ s
  · exact .refl s

theorem confined_busRead (h : SamePrivileged s t) (pa : Word) (w : Width) : (busRead pa w t).Confined s := by
  cases hb : busRead pa w t with
  | ok v u => exact h.trans (.ofSameCpu (busRead_same hb))
  | raised u => exact absurd hb busRead_ne_raised
  | fatal r u => trivial

theorem confined_busWrite (h : SamePrivileged s t) (pa : Word) (w : Width) (v : Dword) : (busWrite pa w v t).Confined s := by
  cases hb : busWrite pa w v t with
  | ok _ u => exact h.trans (.ofSameCpu (busWrite_same hb))
  | raised u => exact absurd hb busWrite_ne_raised
  | fatal r u => trivial

/-- A data access goes on in the state it started in, or raises its fault there. -/
theorem confined_dataAddr (va : Dword) (acc : Access) (w : Width) (s : State) : (dataAddr va acc w s).Confined s := by
  cases ha : dataAddr va acc w s with
  | ok pa t =>
    obtain ⟨-, -, rfl⟩ := dataAddr_eq_ok.1 ha
    exact .refl t
  | raised t =>
    obtain ⟨-, k, -, -, ht⟩ := dataAddr_eq_raised.1 ha
    exact ⟨k, ht⟩
  | fatal r t => trivial

theorem confined_memRead (va : Dword) (w : Width) (s : State) : (memRead va w s).Confined s :=
  (confined_dataAddr va .load w s).bind fun pa _ _ ht => confined_busRead ht pa w

theorem confined_memWrite (va : Dword) (w : Width) (v : Dword) (s : State) : (memWrite va w v s).Confined s :=
  (confined_dataAddr va .store w s).bind fun pa _ _ ht => confined_busWrite ht pa w v

theorem confined_load (va : Dword) (w : Width) (rt : Reg) (f : Dword → Dword) (s : State) : (load va w rt f s).Confined s :=
  (confined_memRead va w s).bind fun v _ _ ht => ht.setGpr rt (f v)

theorem confined_loadPart (va : Dword) (w : Width) (rt : Reg) (f : Dword → Dword) (s : State) :
    (loadPart va w rt f s).Confined s :=
  ((confined_dataAddr va .load .byte s).bind fun pa _ _ ht => confined_busRead ht (container pa w) w).bind
    fun v _ _ ht => ht.setGpr rt (f v)

theorem confined_partialWrite (va : Dword) (w : Width) (mask bits : Dword) (s : State) :
    (partialWrite va w mask bits s).Confined s :=
  (confined_dataAddr va .store .byte s).bind fun pa _ _ ht =>
    (confined_busRead ht (container pa w) w).bind fun _ _ _ hu => confined_busWrite hu (container pa w) w _

theorem confined_loadLinked (va : Dword) (w : Width) (rt : Reg) (f : Dword → Dword) (s : State) :
    (loadLinked va w rt f s).Confined s :=
  (confined_dataAddr va .load w s).bind fun pa _ _ ht =>
    (confined_busRead ht pa w).bind fun v _ _ hu => (hu.setGpr rt (f v)).trans (.linked _ (pa >>> 4))

theorem confined_storeConditional (va : Dword) (w : Width) (rt : Reg) (s : State) :
    (storeConditional va w rt s).Confined s := by
  refine (confined_dataAddr va .store w s).bind fun pa t _ ht => ?_
  split
  · exact (confined_busWrite ht pa w _).bind fun _ _ _ hu => hu.setGpr rt _
  · exact ht.setGpr rt _

theorem fpRead64_eq_ok {r : Reg} {v : Dword} (h : fpRead64 r s = .ok v t) : t = s := by
  unfold fpRead64 at h
  split at h <;> cases h
  rfl

theorem confined_fpRead64 (r : Reg) (s : State) : (fpRead64 r s).Confined s := by
  unfold fpRead64; split
  · exact .refl s
  · trivial

theorem confined_fpWrite64 (h : SamePrivileged s t) (r : Reg) (v : Dword) : (fpWrite64 r v t).Confined s := by
  unfold fpWrite64; split
  · exact h.trans (.of_eq rfl rfl rfl)
  · trivial

end

/-! ## Every instruction -/

/-- Without COP0, every instruction is confined. -/
theorem exec_confined (i : Instr) {s : State} (hu : ¬ s.usable0) : EndsConfined s (exec i s) := by
  have same := SamePrivileged.refl s
  have setHiLo a b : SamePrivileged s (s.setHiLo a b) := .of_eq rfl rfl rfl
  have linked r : SamePrivileged s (link r s) := same.setGpr r _
  cases i
  case cache | mfc0 | mtc0 | tlbwi | tlbwr | tlbr | tlbp => exact ends_confined (confined_needsCop0 hu _)
  case dmfc0 | dmtc0 => exact ends_confined (confined_needs64 (confined_needsCop0 hu _))
  case eret => exact ends_confined (confined_needsNoSlot (confined_needsCop0 hu _))
  case add | addu | sub | subu | addi | addiu | slt | sltu | slti | sltiu | and | or | xor | nor | andi | ori | xori | lui
      | sll | srl | sra | sllv | srlv | srav | mfhi | mflo =>
    exact endsConfined_next (same.setGpr _ _)
  case dadd | daddu | dsub | dsubu | daddi | daddiu | dsll | dsrl | dsra | dsll32 | dsrl32 | dsra32 | dsllv | dsrlv | dsrav =>
    exact ends_confined (confined_needs64 (same.setGpr _ _))
  case mthi | mtlo | mult | multu | div | divu => exact endsConfined_next (setHiLo _ _)
  case dmult | dmultu => exact ends_confined (confined_needs64 (setHiLo _ _))
  case ddiv | ddivu =>
    refine ends_confined (confined_needs64 ?_)
    split
    · trivial
    · exact setHiLo _ _
  case beq | bne | blez | bgtz | bltz | bgez | j | jr => exact ends_confined (confined_needsNoSlot (same.branch _ _))
  case bltzal | bgezal | jal | jalr => exact ends_confined (confined_needsNoSlot ((linked _).branch _ _))
  case beql | bnel | blezl | bgtzl | bltzl | bgezl => exact ends_confined (confined_needsNoSlot (same.branchLikely _ _))
  case bltzall | bgezall => exact ends_confined (confined_needsNoSlot ((linked _).branchLikely _ _))
  case bc1f | bc1t => exact ends_confined (confined_needsNoSlot (confined_needsCop1 (same.branch _ _)))
  case bc1fl | bc1tl => exact ends_confined (confined_needsNoSlot (confined_needsCop1 (same.branchLikely _ _)))
  case lb | lbu | lh | lhu | lw => exact ends_confined (confined_load _ _ _ _ s)
  case lwu | ld => exact ends_confined (confined_needs64 (confined_load _ _ _ _ s))
  case lwl | lwr => exact ends_confined (confined_loadPart _ _ _ _ s)
  case ldl | ldr => exact ends_confined (confined_needs64 (confined_loadPart _ _ _ _ s))
  case sb | sh | sw => exact ends_confined (confined_memWrite _ _ _ s)
  case sd => exact ends_confined (confined_needs64 (confined_memWrite _ _ _ s))
  case swl | swr => exact ends_confined (confined_partialWrite _ _ _ _ s)
  case sdl | sdr => exact ends_confined (confined_needs64 (confined_partialWrite _ _ _ _ s))
  case ll => exact ends_confined (confined_loadLinked _ _ _ _ s)
  case lld => exact ends_confined (confined_needs64 (confined_loadLinked _ _ _ _ s))
  case sc => exact ends_confined (confined_storeConditional _ _ _ s)
  case scd => exact ends_confined (confined_needs64 (confined_storeConditional _ _ _ s))
  case syscall | brk => exact ends_confined (confined_raise _ s)
  case tge | tgeu | tlt | tltu | teq | tne | tgei | tgeiu | tlti | tltiu | teqi | tnei =>
    exact ends_confined (confined_trapIf _ s)
  case sync => exact endsConfined_next same
  case fpComputeS | fpComputeD | fpComputeW | fpComputeL => exact ends_confined (confined_needsCop1 trivial)
  case cfc1 =>
    refine ends_confined (confined_needsCop1 ?_)
    repeat' split
    · exact same.setGpr _ _
    · exact same.setGpr _ _
    · trivial
  case ctc1 =>
    refine ends_confined (confined_needsCop1 ?_)
    repeat' split
    · trivial
    · trivial
    · exact SamePrivileged.of_eq rfl rfl rfl
  case mfc1 => exact ends_confined (confined_needsCop1 (same.setGpr _ _))
  case dmfc1 =>
    exact ends_confined (confined_needs64 (confined_needsCop1 ((confined_fpRead64 _ s).bind fun _ _ _ ht => ht.setGpr _ _)))
  case mtc1 => exact ends_confined (confined_needsCop1 (same.fpWrite32 _ _))
  case dmtc1 => exact ends_confined (confined_needs64 (confined_needsCop1 (confined_fpWrite64 same _ _)))
  case lwc1 =>
    exact ends_confined (confined_needsCop1 ((confined_memRead _ _ s).bind fun _ _ _ ht => ht.fpWrite32 _ _))
  case ldc1 =>
    exact ends_confined (confined_needsCop1 ((confined_memRead _ _ s).bind fun _ _ _ ht => confined_fpWrite64 ht _ _))
  case swc1 => exact ends_confined (confined_needsCop1 (confined_memWrite _ _ _ s))
  case sdc1 =>
    refine ends_confined (confined_needsCop1 ((confined_fpRead64 _ s).bind fun _ t hr _ => ?_))
    rw [fpRead64_eq_ok hr]
    exact confined_memWrite _ _ _ s

/-! ## The two ends of a user-mode instruction -/

/-- The mode is a view of Status (R42). -/
theorem mode_of_status {s t : State} (h : t.cop0.status = s.cop0.status) : t.mode = s.mode := by
  unfold State.mode State.erl State.exl State.ksu; rw [h]

theorem enterException_mode (k : Exc) (p : Bool) (s : State) : (enterException k p s).mode = .kernel :=
  mode_kernel (.inr (.inl (by rw [enterException_status, BitVec.getLsbD_or]; simp)))

theorem vector_mem (k : Exc) (exl0 ext0 : Bool) :
    vector k exl0 ext0 ∈ [0xFFFFFFFF80000000#64, 0xFFFFFFFF80000080#64, 0xFFFFFFFF80000180#64] := by
  unfold vector
  repeat' split
  all_goals simp

/-- Settles O60: an instruction is confined, an exception being taken from the state before it only. -/
theorem userModeIsConfined : Obligations.UserModeIsConfined := by
  intro i s t hm hc hx
  have hu : ¬ s.usable0 := by
    rintro (h | h)
    · rw [hm] at h; cases h
    · rw [hc] at h; cases h
  obtain h | ⟨k, rfl⟩ := (exec_confined i hu).of_next hx
  · have status : t.cop0.status = s.cop0.status := by rw [h.cop0]
    exact ⟨h.tlb, h.inputs, .inl ⟨(mode_of_status status).trans hm, h.cop0, h.cause⟩⟩
  · exact ⟨rfl, rfl, .inr ⟨⟨k, rfl⟩, enterException_mode k true s, enterException_status k true s, rfl, rfl,
      vector_mem k s.exl s.ext⟩⟩

end Sys2Proof.Machine
end

section
/-! PROOFS. COP1: the FP-condition branches, the control registers, and the FP registers as a move, a load or a store sees them
(R381 to R396). -/

namespace Sys2Proof.Machine

/-! ## FP-condition branches (R389 to R392) -/

section

variable {s : State} (hu : s.usable1) (c : Bool) (offset : Imm)
include hu

theorem fpBranch_usable : fpBranch c offset s = ordinaryBranch c offset s := by
  rw [fpBranch, needsCop1_open hu, ordinaryBranch]

theorem fpLikelyBranch_usable : fpLikelyBranch c offset s = likelyBranch c offset s := by
  rw [fpLikelyBranch, needsCop1_open hu, likelyBranch]

end

/-- Settles O27: once COP1 is usable, each is a branch on bit C or on its negation. -/
theorem fpConditionBranches : Obligations.FpConditionBranches := by
  intro s offset hs hu c
  have clear : (!c) = true ↔ c = false := (Bool.not_eq_true' c).to_iff
  exact ⟨(fpBranch_usable hu _ _).trans (ordinaryBranch_eq hs clear offset),
    (fpBranch_usable hu _ _).trans (ordinaryBranch_eq hs Iff.rfl offset),
    (fpLikelyBranch_usable hu _ _).trans (likelyBranch_eq hs clear offset),
    (fpLikelyBranch_usable hu _ _).trans (likelyBranch_eq hs Iff.rfl offset)⟩

/-! ## Control registers (R383, R386) -/

theorem and_ne_zero_iff {w : Nat} (x y : BitVec w) :
    x &&& y ≠ 0#w ↔ ∃ k < w, x.getLsbD k = true ∧ y.getLsbD k = true := by
  simp [BitVec.eq_of_getLsbD_eq_iff]

/-- E, or a Cause bit in 16:12 over its Enable bit in 11:7. -/
theorem fcsrPending_iff (v : Word) : fcsrPending v = true ↔
    v.getLsbD 17 = true ∨ ∃ k < 5, v.getLsbD (12 + k) = true ∧ v.getLsbD (7 + k) = true := by
  rw [fcsrPending, Bool.or_eq_true, bne_iff_ne, and_ne_zero_iff]
  refine or_congr_right (exists_congr fun k => and_congr_right fun hk => ?_)
  simp [hk]

/-- Settles O45: each number selects its arm, and CTC1 stops on a pending exception of the masked value. -/
theorem fpControlRegisters : Obligations.FpControlRegisters := by
  intro s rt hu v pending
  have hp : fcsrPending v = true ↔ pending := fcsrPending_iff v
  refine ⟨outcome_needsCop1 hu _, outcome_needsCop1 hu _, fun h => ?_, fun h => ?_⟩
  · exact (outcome_needsCop1 hu _).trans (congrArg Res.outcome (if_neg (mt hp.1 h)))
  · exact (outcome_needsCop1 hu _).trans (congrArg Res.outcome (if_pos (hp.2 h)))

/-! ## The view of Status.FR (R381) -/

section

variable {s : State} {r : Reg}

theorem fpPlace_whole (h : s.fpDouble r) : fpPlace s r = (r, 0) := if_pos h

/-- An odd register while FR = 0 is the high half of the even one below it. -/
theorem fpPlace_odd (h : ¬ s.fpDouble r) : fpPlace s r = (evenOf r, 32) := by
  have below : ∀ q : Reg, q.toNat % 2 ≠ 0 → q - 1#5 = evenOf q := by decide
  rw [← below r fun even => h (.inr even)]
  exact if_neg h

end

theorem fpRead32_eq (r : Reg) (s : State) : fpRead32 r s = fpWord s r := by
  by_cases h : s.fpDouble r
  · rw [fpRead32, if_pos ((fpWhole_iff s r).2 h), fpWord, fpPlace_whole h, BitVec.setWidth_eq_extractLsb' (by decide)]
  · rw [fpRead32, if_neg (mt (fpWhole_iff s r).1 h), fpWord, fpPlace_odd h]

/-- A register write that puts `v` in the half of `r` and keeps the other half of the register is a write of the word `r`. -/
theorem fpWordWritten_setFgr {s : State} {r p : Reg} {b : Nat} {v : Word} {x : Dword} (hplace : fpPlace s r = (p, b))
    (hb : b = 0 ∨ b = 32) (hv : x.extractLsb' b 32 = v)
    (hkept : x.extractLsb' (32 - b) 32 = (s.fgr p).extractLsb' (32 - b) 32) : fpWordWritten s (s.setFgr p x) r v := by
  refine ⟨rfl, fun q c hc => ?_⟩
  rw [fgr_setFgr, hplace]
  by_cases hq : q = p
  · subst hq
    by_cases hcb : c = b
    · subst hcb
      rw [if_pos rfl, if_pos rfl, hv]
    · have other : c = 32 - b := by omega
      rw [if_pos rfl, if_neg fun h => hcb (congrArg Prod.snd h), other, hkept]
  · rw [if_neg hq, if_neg fun h => hq (congrArg Prod.fst h)]

theorem fpWrite32_written (r : Reg) (v : Word) (s : State) : fpWordWritten s (fpWrite32 r v s) r v := by
  by_cases h : s.fpDouble r
  · rw [fpWrite32, if_pos ((fpWhole_iff s r).2 h)]
    exact fpWordWritten_setFgr (fpPlace_whole h) (.inl rfl) BitVec.extractLsb'_append_eq_right
      BitVec.extractLsb'_append_eq_left
  · rw [fpWrite32, if_neg (mt (fpWhole_iff s r).1 h)]
    refine fpWordWritten_setFgr (fpPlace_odd h) (.inr rfl) BitVec.extractLsb'_append_eq_left ?_
    exact BitVec.extractLsb'_append_eq_right.trans (BitVec.setWidth_eq_extractLsb' (by decide))

theorem fpWrite64_next {s : State} {r : Reg} (h : s.fpDouble r) (v : Dword) :
    ∃ u, (fpWrite64 r v s).outcome = .next u ∧ fpDwordWritten s u r v :=
  ⟨s.setFgr r v, by rw [fpWrite64_whole h, outcome_ok], rfl, fun q => fgr_setFgr s r q v⟩

/-! ## Moves (R384, R385, R387, R388) -/

/-- Behind the open 64-bit gate and with COP1 usable. -/
theorem outcome_needs64_needsCop1 {s : State} (h64 : s.enabled64) (hu : s.usable1) (m : Res Unit) :
    (needs64 s (needsCop1 s m)).outcome = m.outcome :=
  (outcome_needs64 h64 _).trans (outcome_needsCop1 hu m)

/-- Settles O46: a word move uses the half `fpPlace` names, a doubleword move the whole register when there is one. -/
theorem fpMoves : Obligations.FpMoves := by
  intro s rt fs hu
  rw [← fpRead32_eq]
  refine ⟨outcome_needsCop1 hu _, ⟨_, outcome_needsCop1 hu _, fpWrite32_written fs _ s⟩,
    fun h64 hd => ⟨(outcome_needs64_needsCop1 h64 hu _).trans ?_, ?_⟩,
    fun h64 hd => ⟨(outcome_needs64_needsCop1 h64 hu _).trans ?_, (outcome_needs64_needsCop1 h64 hu _).trans ?_⟩⟩
  · rw [fpRead64_whole hd, bind_ok, outcome_done]
  · exact (fpWrite64_next hd _).imp fun _ => And.imp_left (outcome_needs64_needsCop1 h64 hu _).trans
  · rw [fpRead64_odd hd, bind_fatal, outcome_fatal]
  · rw [fpWrite64_odd hd, outcome_fatal]

/-! ## Loads and stores (R393 to R396) -/

/-- An access leaves Status, so FR, as it was. -/
theorem SameCpu.fpDouble_iff {s t : State} (h : SameCpu s t) (r : Reg) : t.fpDouble r ↔ s.fpDouble r := by
  rw [State.fpDouble, h.status, State.fpDouble]

section

variable {s t : State} (he : s.endianOk) (hu : s.usable1) {base ft : Reg} {offset : Imm} {pa : Word}
include he hu

theorem exec_lwc1 {v : Dword} (ht : translate s (effAddr s base offset) .load .word = .pa pa)
    (hb : busRead pa .word s = .ok v t) : exec (.lwc1 base ft offset) s = .next (fpWrite32 ft (lo32 v) t) := by
  refine (outcome_needsCop1 hu _).trans ?_
  rw [memRead_pa he ht, hb, bind_ok, outcome_done]

theorem exec_ldc1 {v : Dword} (ht : translate s (effAddr s base offset) .load .dword = .pa pa)
    (hb : busRead pa .dword s = .ok v t) : exec (.ldc1 base ft offset) s = (fpWrite64 ft v t).outcome := by
  refine (outcome_needsCop1 hu _).trans ?_
  rw [memRead_pa he ht, hb, bind_ok]

theorem exec_swc1 (ht : translate s (effAddr s base offset) .store .word = .pa pa)
    (hb : busWrite pa .word ((fpWord s ft).setWidth 64) s = .ok () t) : exec (.swc1 base ft offset) s = .next t := by
  rw [← fpRead32_eq] at hb
  exact (outcome_needsCop1 hu _).trans (memWrite_next he ht hb)

end

/-- SDC1 reads its register before the access. -/
theorem exec_sdc1 {s : State} (hu : s.usable1) (base ft : Reg) (offset : Imm) : exec (.sdc1 base ft offset) s =
    ((fpRead64 ft s).bind fun v t => memWrite (effAddr s base offset) .dword v t).outcome :=
  outcome_needsCop1 hu _

/-- Settles O47: past its access a load writes the FP register, and a store is one bus write of it. -/
theorem fpLoadsAndStores : Obligations.FpLoadsAndStores := by
  intro s t base ft offset pa v he hu
  rw [← effAddr_eq]
  refine ⟨fun ht hb => ⟨_, exec_lwc1 he hu ht hb, fpWrite32_written ft _ t⟩, fun ht hb => ?ldc1,
    exec_swc1 he hu, fun hd => ?odd, fun hd ht hb => ?sdc1⟩
  case ldc1 =>
    rw [exec_ldc1 he hu ht hb, ← (busRead_same hb).fpDouble_iff]
    exact ⟨fun hd => fpWrite64_next hd v, fun hd => by rw [fpWrite64_odd hd, outcome_fatal]⟩
  case odd => rw [exec_sdc1 hu, fpRead64_odd hd, bind_fatal, outcome_fatal]
  case sdc1 => rw [exec_sdc1 hu, fpRead64_whole hd, bind_ok, memWrite_next he ht hb]

end Sys2Proof.Machine
end

section
/-! PROOFS. Taking an exception, field by field (R413 to R416). -/

namespace Sys2Proof.Machine

/-! ## Fields of a write through a mask -/

section

variable {n : Nat} {mask old v : BitVec n}

/-- A field that lies in the mask is that of the value written. -/
theorem extractLsb'_maskWrite {start len : Nat} (h : ∀ i < len, mask.getLsbD (start + i) = true) :
    (maskWrite mask old v).extractLsb' start len = v.extractLsb' start len := by
  apply BitVec.eq_of_getLsbD_eq
  intro i hi
  rw [BitVec.getLsbD_extractLsb', getLsbD_maskWrite, if_pos (h i hi), ← BitVec.getLsbD_extractLsb']

/-- Bits apart from the mask are kept. -/
theorem maskWrite_and {x : BitVec n} (h : mask &&& x = 0#n) : maskWrite mask old v &&& x = old &&& x := by
  have kept : maskWrite mask old v &&& ~~~(~~~x) = old &&& ~~~(~~~x) := kept_maskWrite (by rwa [BitVec.not_not])
  rwa [BitVec.not_not] at kept

end

/-- A value placed at bit `a` and no wider than the field there is read back from it. -/
theorem extractLsb'_placed {n a w : Nat} (x : BitVec n) (h : a + n ≤ w) :
    (x.setWidth w <<< a).extractLsb' a n = x := by
  apply BitVec.eq_of_getLsbD_eq
  intro i hi
  simp [hi, show a + i < w by omega]

/-! ## The code and the coprocessor of Cause -/

section

variable (code : BitVec 5) (ce : BitVec 2) (cause : Word)

theorem causeWithCode_code : (causeWithCode code ce cause).extractLsb' 2 5 = code := by
  rw [causeWithCode, extractLsb'_maskWrite (by decide)]
  revert code ce; decide

theorem causeWithCode_ce : (causeWithCode code ce cause).extractLsb' 28 2 = ce := by
  rw [causeWithCode, extractLsb'_maskWrite (by decide)]
  revert code ce; decide

theorem causeWithCode_bd : (causeWithCode code ce cause).getLsbD 31 = cause.getLsbD 31 := by
  rw [causeWithCode, getLsbD_maskWrite, if_neg (by decide)]

/-- The bits of Cause that no entry writes: all but BD, CE and ExcCode. -/
theorem causeWithCode_kept : causeWithCode code ce cause &&& 0x4FFFFF83#32 = cause &&& 0x4FFFFF83#32 :=
  maskWrite_and (by decide)

end

/-! ## The address registers (R416) -/

section

variable {k : Exc} {va : Dword} (c : Cop0)

theorem recordAddress_none (h : recorded k = none) : recordAddress k c = c := by cases k <;> cases h <;> rfl

theorem recordAddress_error (h : recorded k = some (va, false)) : recordAddress k c = { c with badVAddr := va } := by
  cases k <;> cases h <;> rfl

theorem recordAddress_page (h : recorded k = some (va, true)) : recordAddress k c = recordPage va c := by
  cases k <;> cases h <;> rfl

theorem recordPage_context : (recordPage va c).context.extractLsb' 4 19 = va.extractLsb' 13 19 :=
  (extractLsb'_maskWrite (by decide)).trans (extractLsb'_placed _ (by decide))

theorem recordPage_context_kept :
    (recordPage va c).context &&& 0xFFFFFFFFFF80000F#64 = c.context &&& 0xFFFFFFFFFF80000F#64 := maskWrite_and (by decide)

theorem recordPage_xContext_region : (recordPage va c).xContext.extractLsb' 31 2 = va.extractLsb' 62 2 := by
  refine (extractLsb'_maskWrite (by decide)).trans ?_
  apply BitVec.eq_of_getLsbD_eq
  intro i hi
  simp [hi, show 31 + i < 64 by omega, show ¬ 31 + i < 4 by omega, show ¬ 31 + i - 4 < 27 by omega]

theorem recordPage_xContext_page : (recordPage va c).xContext.extractLsb' 4 27 = va.extractLsb' 13 27 := by
  refine (extractLsb'_maskWrite (by decide)).trans ?_
  apply BitVec.eq_of_getLsbD_eq
  intro i hi
  simp [hi, show 4 + i < 64 by omega, show 4 + i < 31 by omega]

theorem recordPage_xContext_kept :
    (recordPage va c).xContext &&& 0xFFFFFFFE0000000F#64 = c.xContext &&& 0xFFFFFFFE0000000F#64 := maskWrite_and (by decide)

end

/-! ## The entry -/

/-- COP0 after an entry, from either level: EPC and BD are written from EXL = 0 only, EXL is set in both cases. -/
theorem enterException_cop0 (k : Exc) (p : Bool) (s : State) :
    (enterException k p s).cop0 = recordAddress k { s.cop0 with
      epc := if s.exl then s.cop0.epc
        else if s.prevDelaySlot then (if p then s.prevPc else s.pc) - 4#64 else if p then s.prevPc else s.pc
      cause := causeWithCode k.code k.ceField (if s.exl then s.cop0.cause else writeBit s.cop0.cause 31 s.prevDelaySlot)
      status := s.cop0.status ||| 2#32 } := by
  cases h : s.exl
  · exact enterException_cop0_fresh h k p
  · have hs := enterException_status k p s
    rw [enterException_cop0_nested h, recordAddress_frame] at hs
    rw [enterException_cop0_nested h, ← hs]
    rfl

/-- The refill vectors serve the misses taken from EXL = 0 (R415). -/
theorem vector_miss {k : Exc} (h : k.isMiss = true) (exl0 ext0 : Bool) : vector k exl0 ext0 =
    if exl0 then 0xFFFFFFFF80000180#64 else if ext0 then 0xFFFFFFFF80000080#64 else 0xFFFFFFFF80000000#64 := by
  rw [vector, h]
  cases exl0 <;> rfl

theorem vector_general {k : Exc} (h : k.isMiss = false) (exl0 ext0 : Bool) :
    vector k exl0 ext0 = 0xFFFFFFFF80000180#64 := by
  rw [vector, h]
  rfl

/-- Settles O37: COP0 is written by the level before entry, by the code, and by the address the kind records. -/
theorem exceptionEntry : Obligations.ExceptionEntry := by
  intro k usePrev s t c d saved exl
  have hd : d = recordAddress k { c with
      epc := if exl then c.epc else if s.prevDelaySlot then saved - 4#64 else saved
      cause := causeWithCode k.code k.ceField (if exl then c.cause else writeBit c.cause 31 s.prevDelaySlot)
      status := c.status ||| 2#32 } := enterException_cop0 k usePrev s
  have hcause : d.cause = causeWithCode k.code k.ceField (if exl then c.cause else writeBit c.cause 31 s.prevDelaySlot) := by
    rw [hd, recordAddress_frame]
  refine ⟨rfl, ?frame, ?epc, ?bd, ?code, ?ce, ?kept, ?vector, ?address⟩
  case frame => rw [hd, recordAddress_frame]
  case epc => rw [hd, recordAddress_frame]
  case bd =>
    rw [hcause, causeWithCode_bd]
    split
    · rfl
    · rw [getLsbD_writeBit _ _ _ _ (by decide), if_pos rfl]
  case code =>
    rw [hcause, causeWithCode_code]
    cases k <;> rfl
  case ce =>
    rw [hcause, causeWithCode_ce]
    cases k <;> rfl
  case kept =>
    rw [hcause, causeWithCode_kept]
    split
    · rfl
    · rw [writeBit_eq_maskWrite _ _ _ (by decide), maskWrite_and (by decide)]
  case vector =>
    change vector k s.exl s.ext = _
    cases k
    case tlbMissLoad | tlbMissStore => exact vector_miss rfl s.exl s.ext
    all_goals exact vector_general rfl s.exl s.ext
  case address =>
    rw [hd]
    split
    next h => rw [recordAddress_none _ h]; exact ⟨rfl, rfl, rfl, rfl⟩
    next va h => rw [recordAddress_error _ h]; exact ⟨rfl, rfl, rfl, rfl⟩
    next va h =>
      rw [recordAddress_page _ h]
      exact ⟨rfl, recordPage_context _, recordPage_context_kept _, recordPage_xContext_region _,
        recordPage_xContext_page _, recordPage_xContext_kept _, rfl⟩

end Sys2Proof.Machine
end

section
/-! PROOFS. The registers the core gives a meaning, seen from the bus: words of fields, clear/set pairs, and Cause.IP2 after a
write (R123, R433, R441 to R444, R471). -/

namespace Sys2Proof.Machine

/-! ## Register accesses -/

theorem windowOf_lt {r : RdramSize} {a b : Nat} {w : Window} (h : windowOf r a = some (w, b)) : a < 2 ^ 32 := by
  obtain ⟨last, hm, -, hl⟩ := windowOf_eq_some h
  have table : ∀ x ∈ windowTable r, x.2.2 < 2 ^ 32 := by cases r <;> decide
  exact hl.trans_lt (table _ hm)

theorem toNat_ofNat_of_window {r : RdramSize} {a b : Nat} {w : Window} (h : windowOf r a = some (w, b)) :
    (BitVec.ofNat 32 a).toNat = a := (BitVec.toNat_ofNat a 32).trans (Nat.mod_eq_of_lt (windowOf_lt h))

section

variable {s : State} {win : Window} {base off : Nat} (hw : windowOf s.inputs.rdram (base + off) = some (win, base))
  (hm : win ∈ [Window.spRegs, .spPcRegs, .mi, .vi, .ai, .pi, .ri, .si])
include hw hm

/-- A word read of a register window is a device read, its value zero-extended. -/
theorem busRead_device {x : Word} {t : State} (h : deviceRead win base off s = .ok x t) :
    busRead (BitVec.ofNat 32 (base + off)) .word s = .ok (x.setWidth 64) t := by
  obtain ⟨hb, hc⟩ := registerWindow hm
  rw [busRead_register (toNat_ofNat_of_window hw) hw hb hc, h]
  rfl

/-- A word write of a register window is a device write of the low word. -/
theorem busWrite_device (v : Dword) :
    busWrite (BitVec.ofNat 32 (base + off)) .word v s = deviceWrite win base off (lo32 v) s := by
  obtain ⟨hb, hc⟩ := registerWindow hm
  exact busWrite_register v (toNat_ofNat_of_window hw) hw hb hc

end

/-! ## Cause.IP2 -/

theorem recomputed_recompute {s u : State} (h : u.cop0 = s.cop0) : recomputed s (recompute u) :=
  ⟨by rw [← h]; rfl, fun k => by rw [recompute_cause, h]; rfl⟩

theorem recomputed_setMiIntr {s u : State} (h : u.cop0 = s.cop0) (k : Nat) (b : Bool) : recomputed s (setMiIntr k b u) :=
  recomputed_recompute h

/-! ## Words of fields -/

/-- The number of a concatenation. -/
theorem toNat_append_add {n m : Nat} (x : BitVec n) (y : BitVec m) : (x ++ y).toNat = 2 ^ m * x.toNat + y.toNat := by
  rw [BitVec.toNat_append, ← Nat.shiftLeft_add_eq_or_of_lt y.isLt, Nat.shiftLeft_eq, Nat.mul_comm]

/-- A word of at most 32 bits extended twice is its number. -/
theorem setWidth_word_ofNat {n : Nat} {x : BitVec n} (h : n ≤ 32) {k : Nat} (hk : x.toNat = k) :
    (x.setWidth 32).setWidth 64 = BitVec.ofNat 64 k := by
  rw [BitVec.setWidth_setWidth (by omega), ← hk, BitVec.ofNat_toNat]

/-! ## Clear/set pairs -/

theorem getLsbD_lo32 (v : Dword) {i : Nat} (h : i < 32) : (lo32 v).getLsbD i = v.getLsbD i := by simp [lo32, h]

theorem pairBit_lo32 (v : Dword) {clr set : Nat} (hc : clr < 32) (hs : set < 32) (x : Bool) :
    pairBit (lo32 v) clr set x = paired v clr set x := by
  rw [pairBit, paired, getLsbD_lo32 v hc, getLsbD_lo32 v hs]
  cases v.getLsbD clr <;> cases v.getLsbD set <;> rfl

/-- Bits written one after another, each from its own old value: every bit of the list is written once. -/
theorem getLsbD_foldl_writeBit {n : Nat} (f : Nat → Bool → Bool) {l : List Nat} (hl : l.Nodup) (hn : ∀ k ∈ l, k < n)
    (x : BitVec n) (j : Nat) : (l.foldl (fun m k => writeBit m k (f k (m.getLsbD k))) x).getLsbD j =
      if j ∈ l then f j (x.getLsbD j) else x.getLsbD j := by
  induction l generalizing x with
  | nil => rfl
  | cons k l ih =>
    obtain ⟨hk, hl⟩ := List.nodup_cons.1 hl
    obtain ⟨hkn, hn⟩ := List.forall_mem_cons.1 hn
    rw [List.foldl_cons, ih hl hn, getLsbD_writeBit _ _ _ _ hkn]
    by_cases hj : j = k
    · subst hj
      rw [if_neg hk, if_pos rfl, if_pos List.mem_cons_self]
    · rw [if_neg hj]
      exact if_congr (List.mem_cons.trans (or_iff_right hj)).symm rfl rfl

/-! ## The MIPS interface (R441 to R444) -/

theorem miModeRead_eq (m : Mi) : (miModeRead m).setWidth 64 = BitVec.ofNat 64 (m.initLen.toNat + 128 * m.initMode.toNat +
    256 * m.ebusTest.toNat + 512 * m.rdramReg.toNat) := by
  refine setWidth_word_ofNat (by decide) ?_
  simp only [toNat_append_add, BitVec.toNat_ofBool]
  omega

theorem getLsbD_miMaskAfter (v : Dword) (mask : BitVec 6) {k : Nat} (hk : k < 6) :
    (miMaskAfter (lo32 v) mask).getLsbD k = paired v (2 * k) (2 * k + 1) (mask.getLsbD k) := by
  have mem : k ∈ [0, 1, 2, 3, 4, 5] := List.mem_range.2 hk
  rw [miMaskAfter, getLsbD_foldl_writeBit (fun k b => pairBit (lo32 v) (2 * k) (2 * k + 1) b) (by decide) (by decide),
    if_pos mem, pairBit_lo32 v (by omega) (by omega)]

/-- A write of MI_MODE: the length, the three pairs, and the DP interrupt cleared by bit 11 (R441). -/
theorem miModeWrite_eq (v : Dword) (s : State) : miModeWrite (lo32 v) s =
    let t := { s with mi := { s.mi with
      initLen := v.extractLsb' 0 7, initMode := paired v 7 8 s.mi.initMode
      ebusTest := paired v 9 10 s.mi.ebusTest, rdramReg := paired v 12 13 s.mi.rdramReg } }
    if v.getLsbD 11 then setMiIntr 5 false t else t := by
  have len : (lo32 v).setWidth 7 = v.extractLsb' 0 7 :=
    (BitVec.setWidth_setWidth (by decide)).trans (BitVec.setWidth_eq_extractLsb' (by decide))
  simp only [miModeWrite, len, pairBit_lo32 v, getLsbD_lo32 v, Nat.reduceLT]

/-- Settles O51: each register selects its arm; MI_MODE and MI_INTR_MASK go by clear/set pairs. -/
theorem mipsInterface : Obligations.MipsInterface := by
  intro s v m
  have place {off : Nat} (h : off < 0x10) := windowOf_mi s.inputs.rdram h
  have read {off x t} (h : off < 0x10) := busRead_device (x := x) (t := t) (place h) (by decide)
  have write {off} (h : off < 0x10) := busWrite_device (place h) (by decide) v
  refine ⟨miModeRead_eq m ▸ read (off := 0) (by decide) rfl, read (off := 4) (by decide) rfl,
    (read (off := 8) (by decide) rfl).trans ?intr, (read (off := 0xC) (by decide) rfl).trans ?mask,
    ⟨_, write (off := 0) (by decide), ?mode⟩,
    write (off := 4) (by decide), write (off := 8) (by decide),
    ⟨_, write (off := 0xC) (by decide), rfl, fun k hk => getLsbD_miMaskAfter v m.mask hk, recomputed_recompute rfl⟩⟩
  case intr => rw [BitVec.setWidth_setWidth (by decide)]
  case mask => rw [BitVec.setWidth_setWidth (by decide)]
  case mode =>
    rw [miModeWrite_eq]
    cases h : v.getLsbD 11 with
    | true => exact ⟨rfl, rfl, rfl, rfl, rfl, rfl, fun _ => ⟨rfl, recomputed_setMiIntr rfl 5 false⟩, nofun⟩
    | false => exact ⟨rfl, rfl, rfl, rfl, rfl, rfl, nofun, fun _ => ⟨rfl, rfl⟩⟩

/-! ## SP_STATUS (R471) -/

theorem spStatusRead_eq (p : Sp) : (spStatusRead p).setWidth 64 = BitVec.ofNat 64 (p.halt.toNat + 2 * p.broke.toNat +
    32 * p.sstep.toNat + 64 * p.intbreak.toNat + 128 * p.sig.toNat) := by
  refine setWidth_word_ofNat (by decide) ?_
  simp only [toNat_append_add, BitVec.toNat_ofBool, BitVec.toNat_ofNat]
  omega

theorem getLsbD_spSigAfter (v : Dword) (sig : BitVec 8) {k : Nat} (hk : k < 8) :
    (spSigAfter (lo32 v) sig).getLsbD k = paired v (9 + 2 * k) (10 + 2 * k) (sig.getLsbD k) := by
  have mem : k ∈ [0, 1, 2, 3, 4, 5, 6, 7] := List.mem_range.2 hk
  rw [spSigAfter, getLsbD_foldl_writeBit (fun k b => pairBit (lo32 v) (9 + 2 * k) (10 + 2 * k) b) (by decide) (by decide),
    if_pos mem, pairBit_lo32 v (by omega) (by omega)]

/-- Settles O54: a read concatenates the fields, a write goes by clear/set pairs with bit 2 clearing only. -/
theorem spStatus : Obligations.SpStatus := by
  intro s v p
  have place := windowOf_spStatus s.inputs.rdram
  have pair {clr set : Nat} (hc : clr < 32) (hs : set < 32) := pairBit_lo32 v hc hs
  refine ⟨spStatusRead_eq p ▸ busRead_device place (by decide) rfl, _, busWrite_device place (by decide) v, rfl,
    pair (by decide) (by decide) _, ?broke, pair (by decide) (by decide) _, pair (by decide) (by decide) _,
    fun k hk => getLsbD_spSigAfter v p.sig hk, fun k hk => ?intr, recomputed_setMiIntr rfl _ _⟩
  case broke =>
    change (if (lo32 v).getLsbD 2 then false else p.broke) = _
    rw [getLsbD_lo32 v (by decide)]
    cases v.getLsbD 2 <;> simp
  case intr => rw [← pair (by decide) (by decide)]; exact getLsbD_writeBit _ _ _ _ (by decide)

end Sys2Proof.Machine
end

section
/-! PROOFS. The video interface and its line event (R450 to R452, R461). -/

namespace Sys2Proof.Machine

/-! ## The line as a number -/

theorem fieldEnd_iff (x : Vi) :
    x.vSync.setWidth 10 ≤ x.line + 1#10 ↔ x.vSync.toNat % 1024 ≤ (x.line.toNat + 1) % 1024 := by
  rw [BitVec.le_def, BitVec.toNat_setWidth, BitVec.toNat_add]
  rfl

theorem nextLine_toNat (x : Vi) : (nextLine x).toNat =
    if x.vSync.toNat % 1024 ≤ (x.line.toNat + 1) % 1024 then 0 else (x.line.toNat + 1) % 1024 := by
  rw [nextLine, apply_ite BitVec.toNat]
  exact if_congr (fieldEnd_iff x) rfl (BitVec.toNat_add _ _)

/-- The line stands at VI_V_INTR. -/
theorem nextLine_eq_vIntr_iff (x : Vi) : nextLine x = x.vIntr.setWidth 10 ↔ (nextLine x).toNat = x.vIntr.toNat % 1024 := by
  rw [← BitVec.toNat_inj, BitVec.toNat_setWidth]

/-! ## The line event (R451) -/

/-- The line event, with the interrupt and the frames it decides written out. -/
theorem viLineEvent_eq (s : State) : viLineEvent s = setTimer s.inputs.viLineCycles .viLine (recompute { s with
    mi := { s.mi with intr := if nextLine s.vi = s.vi.vIntr.setWidth 10 then writeBit s.mi.intr 3 true else s.mi.intr }
    vi := { s.vi with line := nextLine s.vi }
    frames := if s.vi.vSync.setWidth 10 ≤ s.vi.line + 1#10 then viValues { s.vi with line := 0#10 } :: s.frames
      else s.frames }) := by
  simp only [viLineEvent, nextLine, decide_eq_true_eq]
  by_cases h : s.vi.vSync.setWidth 10 ≤ s.vi.line + 1#10
  all_goals
    simp only [h, if_true, if_false]
    split <;> rfl

/-- Settles O52: thirteen registers are cells of their own, and the line event is read off its equation. -/
theorem videoInterface : Obligations.VideoInterface := by
  intro s v x w cell
  have place {off : Nat} (h : off < 0x38) := windowOf_vi s.inputs.rdram h
  have read {off y t} (h : off < 0x38) := busRead_device (x := y) (t := t) (place h) (by decide)
  have write {off} (h : off < 0x38) := busWrite_device (place h) (by decide) v
  have stores {off old new} (h : off < 0x38) (hr : deviceRead .vi 0x04400000 off s = .ok old s)
      (hw : deviceWrite .vi 0x04400000 off w s = .ok () { s with vi := new }) : cell off old new :=
    ⟨read h hr, (write h).trans hw⟩
  refine ⟨stores (by decide) rfl rfl, stores (by decide) rfl rfl, stores (by decide) rfl rfl, stores (by decide) rfl rfl,
    stores (by decide) rfl rfl, stores (by decide) rfl rfl, stores (by decide) rfl rfl, stores (by decide) rfl rfl,
    stores (by decide) rfl rfl, stores (by decide) rfl rfl, stores (by decide) rfl rfl, stores (by decide) rfl rfl,
    stores (by decide) rfl rfl, (read (off := 0x10) (y := x.line.setWidth 32) (by decide) rfl).trans ?current,
    ⟨_, write (off := 0x10) (by decide), rfl, recomputed_setMiIntr rfl 3 false⟩, ?event⟩
  case current => rw [BitVec.setWidth_setWidth (by decide)]
  case event =>
    intro t next line shown
    have ht : t = _ := viLineEvent_eq s
    have hline : (nextLine x).toNat = line := nextLine_toNat x
    have hnext : nextLine x = BitVec.ofNat 10 line := by rw [← hline, BitVec.ofNat_toNat, BitVec.setWidth_eq]
    rw [ht, ← hnext]
    refine ⟨rfl, if_congr (fieldEnd_iff x) rfl rfl, if_congr ?_ rfl rfl, recomputed_recompute rfl, fun _ => mem_enqueue⟩
    rw [nextLine_eq_vIntr_iff, hline]

end Sys2Proof.Machine
end

section
/-! PROOFS. The peripheral interface and its DMA (R466 to R468). -/

namespace Sys2Proof.Machine

theorem piStatusRead_eq (s : State) :
    (piStatusRead s).setWidth 64 = BitVec.ofNat 64 (s.pi.busy.toNat + 8 * (s.mi.intr.getLsbD 4).toNat) := by
  refine setWidth_word_ofNat (by decide) ?_
  simp only [toNat_append_add, BitVec.toNat_ofBool, BitVec.toNat_ofNat]
  omega

/-! ## Starting the DMA (R466) -/

/-- The length written to PI_WR_LEN, as a number. -/
theorem dmaLength (v : Dword) : ((lo32 v).setWidth 24).toNat + 1 = v.toNat % 2 ^ 24 + 1 := by
  rw [lo32, BitVec.setWidth_setWidth_of_le v (by decide), BitVec.toNat_setWidth]

theorem piStartDma_busy {s : State} (h : s.pi.busy = true) (v : Word) : piStartDma v s = .fatal .piDmaBusy s := if_pos h

theorem piStartDma_idle {s : State} (h : s.pi.busy = false) (v : Word) :
    piStartDma v s = piDma ((v.setWidth 24).toNat + 1) s.pi.dramAddr.toNat s.pi.cartAddr.toNat s :=
  if_neg (ne_true_of_eq_false h)

section

variable {len d c : Nat} {s : State}

theorem piDma_refused (h : d % 2 = 1 ∨ c % 2 = 1 ∨
    ¬ (d + len ≤ rdramBytes s.inputs.rdram ∧ 0x10000000 ≤ c ∧ c + len ≤ 0x1FC00000)) :
    piDma len d c s = .fatal .piDmaRange s := by
  rw [piDma]
  split
  · rfl
  · rw [if_pos (by omega)]

theorem piDma_starts (hd : d % 2 = 0) (hc : c % 2 = 0)
    (h : d + len ≤ rdramBytes s.inputs.rdram ∧ 0x10000000 ≤ c ∧ c + len ≤ 0x1FC00000) :
    piDma len d c s = .ok () (piTransfer len d c s) := by
  rw [piDma, if_neg (by omega), if_neg (by omega)]
  rfl

end

/-- A transfer copies the bytes, sets busy, queues the completion and leaves the address registers to draws. -/
theorem piTransfer_eq (len d c : Nat) (s : State) : ∃ e f n, piTransfer len d c s = { s with
    mem := (piCopy len d (c - 0x10000000) s).mem, pi := { dramAddr := e, cartAddr := f, busy := true }
    queue := enqueue ⟨s.now + piDmaCycles s.inputs len, s.nextSeq, .piDmaDone⟩ s.queue, nextSeq := s.nextSeq + 1
    draws := n } := by
  obtain ⟨u, e, f, n, hu, ht⟩ := piTransfer_frame len d c s
  have hframe := piCopy_frame len d (c - 0x10000000) s
  rw [← hu] at hframe ⊢
  refine ⟨e, f, n, ht.trans ?_⟩
  rw [hframe]
  rfl

/-! ## The registers -/

/-- Settles O53: each register selects its arm, and a DMA that starts is a transfer. -/
theorem peripheralInterface : Obligations.PeripheralInterface := by
  intro s v d c len inRange start
  have place {off : Nat} (h : off < 0x34) := windowOf_pi s.inputs.rdram h
  have read {off x t} (h : off < 0x34) := busRead_device (x := x) (t := t) (place h) (by decide)
  have write {off} (h : off < 0x34) := busWrite_device (place h) (by decide) v
  have hstart : start = piStartDma (lo32 v) s := write (off := 0xC) (by decide)
  have hidle (h : s.pi.busy = false) : start = piDma len d c s := by
    rw [hstart, piStartDma_idle h, dmaLength]
  have hstatus : busWrite 0x04600010#32 .word v s = done (if v.getLsbD 1 then setMiIntr 4 false s else s) := by
    rw [← getLsbD_lo32 v (by decide)]
    exact write (off := 0x10) (by decide)
  refine ⟨(read (off := 0) (by decide) rfl).trans ?dramAddr, read (off := 4) (by decide) rfl, ?lengths,
    piStatusRead_eq s ▸ read (off := 0x10) (by decide) rfl, (write (off := 0) (by decide)).trans ?dramWrite,
    write (off := 4) (by decide), write (off := 8) (by decide), fun h => hstart.trans (piStartDma_busy h _),
    fun h hr => (hidle h).trans (piDma_refused hr), fun h hd hc hr hwf => ?transfer, ⟨rfl, recomputed_setMiIntr rfl 4 true⟩,
    fun h => ⟨_, hstatus.trans (congrArg done (if_pos h)), rfl, recomputed_setMiIntr rfl 4 false⟩,
    fun h => hstatus.trans (congrArg done (if_neg (ne_true_of_eq_false h)))⟩
  case dramAddr => rw [BitVec.setWidth_setWidth (by decide)]
  case dramWrite =>
    rw [← BitVec.setWidth_setWidth_of_le v (by decide : 24 ≤ 32)]
    rfl
  case lengths =>
    have small (y : Word) : (y.setWidth 64).toNat < 2 ^ 32 := (BitVec.toNat_setWidth_of_le (by decide)).trans_lt y.isLt
    rintro a (rfl | rfl)
    · exact ⟨_, _, read (off := 8) (by decide) rfl, rfl, small _⟩
    · exact ⟨_, _, read (off := 0xC) (by decide) rfl, rfl, small _⟩
  case transfer =>
    obtain ⟨e, f, n, ht⟩ := piTransfer_eq len d c s
    obtain ⟨-, hcopied, hkept⟩ := piCopy_mem len d (c - 0x10000000) s hwf
    exact ⟨_, (hidle h).trans ((piDma_starts hd hc hr).trans (congrArg _ ht)), rfl, fun _ => mem_enqueue, hcopied, hkept⟩

end Sys2Proof.Machine
end

section
/-! PROOFS. What a tick runs (R460 to R464, R467). -/

namespace Sys2Proof.Machine

/-- With no event due by then, a tick only advances the cycle counter. -/
theorem tick_idle {s : State} {n : Nat} (h : ∀ e ∈ s.queue, s.now + n < e.deadline) :
    tick n s = .next { s with now := s.now + n } := tickLoop_idle h

/-- A tick that only the first event is due in, and that event leaves nothing due, runs that event. -/
theorem tick_first {s t : State} {e : Event} {q : List Event} {n : Nat} (hq : s.queue = e :: q)
    (he : e.deadline ≤ s.now + n) (ht : t = runEvent e.kind { s with now := s.now + n, queue := q })
    (h : ∀ x ∈ t.queue, t.now < x.deadline) : tick n s = .next t := by
  rw [tick, hq, List.length_cons, tickLoop]
  simp only [if_neg (Nat.not_lt.2 he)]
  rw [← ht]
  exact tickLoop_idle h

/-- Settles O56: the loop ends with nothing due; before its deadline a completion waits, at its deadline it runs. -/
theorem tickRunsDueEvents : Obligations.TickRunsDueEvents := by
  refine ⟨fun s n h => ?_, fun s q n k hn hq hlater => ?_⟩
  · obtain ⟨t, ht, -⟩ := tickLoop_ends (h.advanceNow n) (List.length_filter_le _ _)
    refine ⟨t, ht, (h.tick ht).2, tick_frame ht, fun hidle => ?_⟩
    have e : Host.Outcome.next t = .next { s with now := s.now + n } := ht.symm.trans (tick_idle hidle)
    cases e
    rfl
  · have hnow : s.now + (n - 1) + 1 = s.now + n := by omega
    have hwait : tick (n - 1) s = .next { s with now := s.now + (n - 1) } := tick_idle fun e he => by
      rw [hq] at he
      obtain rfl | he := List.mem_cons.1 he
      · exact Nat.lt_of_succ_le hnow.le
      · exact (Nat.lt_of_succ_le hnow.le).trans (hlater e he)
    have hrun := tick_first (s := { s with now := s.now + (n - 1) }) (n := 1) hq hnow.ge rfl fun e he =>
      hnow.trans_lt (hlater e he)
    exact ⟨_, _, hwait, rfl, hrun, rfl, getLsbD_writeBit _ _ _ _ (by decide), rfl⟩

end Sys2Proof.Machine
end

section
/-! PROOFS. Reset and the HLE boot (R480 to R484). -/

namespace Sys2Proof.Machine

/-! ## The boot table (R482) -/

/-- The spec's GPR2 stands last in the table, so it wins over an entry of the launch. -/
theorem setBootGprs_bootTable_gpr2 {l : Launch} (h : l.cic = .cic6102or7101) (s : State) :
    (setBootGprs (bootTable l) s).gpr 2#5 = 0x000000000EBDA536#64 := by
  have ht : bootTable l = l.bootGpr ++ [(2#5, 0x000000000EBDA536#64)] := by rw [bootTable, h]
  rw [ht, setBootGprs_append]
  exact (gpr_setGpr _ _ _ _).trans rfl

theorem mem_bootTable {l : Launch} {p : Reg × Dword} (h : p ∈ bootTable l) : p ∈ l.bootGpr ∨ p.1 = 2#5 := by
  unfold bootTable at h
  split at h
  · exact (List.mem_append.1 h).imp_right fun h2 => congrArg Prod.fst (List.mem_singleton.1 h2)
  · exact .inl h

theorem setBootGprs_bootTable_other {l : Launch} {r : Reg} (h : ∀ p ∈ l.bootGpr, p.1 ≠ r) (h2 : r ≠ 2#5) (s : State) :
    (setBootGprs (bootTable l) s).gpr r = s.gpr r :=
  setBootGprs_gpr _ _ _ fun p hp => (mem_bootTable hp).elim (h p) fun e => e.trans_ne h2.symm

/-! ## The state of every boot -/

theorem gpr_of_zeros {s : State} (h : s.gprs = Vector.replicate 32 0#64) (r : Reg) : s.gpr r = 0#64 := by
  simp [State.gpr, h]

/-- Cause.IP is 0 after reset, whatever the launch's Cause (R480). -/
theorem bootCop0_ip (c : Cop0) : (bootCop0 c).cause.extractLsb' 8 8 = 0#8 := by
  rw [bootCop0, BitVec.extractLsb'_and]
  exact BitVec.and_zero

/-- KSU, ERL and EXL are 0 in Status after reset (R42, R480). -/
theorem mode_of_resetStatus {s : State} (h : s.cop0.status = 0x34000000#32) : s.mode = .kernel :=
  mode_kernel (.inr (.inr (by rw [h]; rfl)))

/-- Settles O57: the boot table changes general registers only, so all else is as reset and the boot copy leave it. -/
theorem bootState : Obligations.BootState := by
  intro l
  refine ⟨fun h => setBootGprs_bootTable_gpr2 h _,
    fun r h h2 => (setBootGprs_bootTable_other h h2 _).trans (gpr_of_zeros rfl r), ?_⟩
  have frame : hleBoot l = _ := congrArg (setTimer l.inputs.viLineCycles .viLine) (setBootGprs_frame (bootTable l) _)
  rw [frame]
  refine ⟨rfl, rfl, rfl, rfl, rfl, rfl, rfl, rfl, rfl, bootCop0_ip l.cop0, rfl, rfl, ?tlb, rfl, rfl, rfl, rfl, rfl, rfl,
    ?queue, rfl, mode_of_resetStatus rfl, ?bootCode⟩
  case tlb => exact fun i => Vector.getElem_replicate i.isLt
  case queue => rw [setTimer_queue, Nat.zero_add]; rfl
  case bootCode => exact fun hwf _ _ hi hc => copyBootCode_read l.inputs.cart 4096 hwf hi hc

/-! ## The invariant at reset -/

theorem TlbEntry.reset_legal : TlbEntry.reset.Legal := by constructor <;> decide

theorem Cop0.reset_legal : Cop0.reset.Legal := by constructor <;> decide

theorem State.reset_dataInv : State.reset.DataInv where
  running := rfl
  memForm := reset_mem_wf
  memPlace := fun _ hc => absurd hc List.not_mem_nil
  zero := rfl
  cop0 := Cop0.reset_legal
  ip2 := rfl
  tlb e he := by
    have he : e ∈ (Vector.replicate 32 TlbEntry.reset).toList := he
    rw [Vector.toList_replicate] at he
    exact List.eq_of_mem_replicate he ▸ TlbEntry.reset_legal
  fcr31 := rfl
  queue := List.pairwise_singleton _ _
  seqs := by decide
  viLine := rfl
  piBusy := rfl
  lineCycles := by decide

/-- Settles O58: the one event queued at reset is due a whole line later. -/
theorem resetMeetsInvariant : Obligations.ResetMeetsInvariant := ⟨State.reset_dataInv, by decide⟩

end Sys2Proof.Machine
end
